-- ==== Sys2Proof/Word.lean ====
section
/-! DEFINITION. The bit-vector types of the spec (00_scope.md R8, R13): XLEN = 64, instruction words of 32 and 16 bits,
register, popular-register and CSR fields. -/

namespace Sys2Proof

/-- An integer register, an address or a decoded immediate (XLEN = 64, 00_scope.md R8). -/
abbrev Word := BitVec 64

/-- A standard instruction word, or the 32 bits of a fetch (00_scope.md R13). -/
abbrev Word32 := BitVec 32

/-- A compressed instruction word (00_scope.md R13). -/
abbrev Half := BitVec 16

/-- A byte of memory (20_memory.md R40). -/
abbrev Byte := BitVec 8

/-- A 5-bit register field naming x0 to x31 (10_state.md R22). -/
abbrev RegIdx := BitVec 5

/-- A 3-bit popular register field naming x8 to x15 (10_state.md R23). -/
abbrev PopIdx := BitVec 3

/-- A 12-bit CSR address (30_encoding.md R78). -/
abbrev CsrIdx := BitVec 12

end Sys2Proof
end

