-- ==== Sys2Proof/Config.lean ====
section
/-! DEFINITION. What an instance of the hardware fixes: the named parameters of 92_eei_decisions.md, the constants of
00_scope.md R8, and the free values (opaque, no body) for what the spec leaves open. -/

namespace Sys2Proof

/-- `COMPRESSED_PATH`, the block's one parameter (00_scope.md R8, R9). -/
inductive CompressedPath where
  | expand
  | quadrant
  deriving DecidableEq, Repr

/-- `ILLEGAL_TVAL`, a consumer's parameter: what mtval records for an illegal instruction (60_exceptions.md R381). -/
inductive IllegalTval where
  | bits
  | zero
  deriving DecidableEq, Repr

/-- What the execution environment does with a misaligned data access (42_load_store.md R181). -/
inductive MisalignedData where
  | trap
  | split
  deriving DecidableEq, Repr

/-- The parameters of one instance. They are plain data held in State, which no step changes, so that a statement about
every state holds for every choice of them. DESIGN CHOICE (log entry 9), safe. -/
structure Params where
  compressedPath : CompressedPath
  illegalTval    : IllegalTval
  misaligned     : MisalignedData
  absentCsrs     : List CsrIdx
  deriving DecidableEq, Repr

/-- The defaults of 92_eei_decisions.md, "Named parameters"; for misaligned data and the CSR map, which have no default
there, DESIGN CHOICE (log entries 6 and 8). -/
def Params.default : Params where
  compressedPath := .expand
  illegalTval    := .bits
  misaligned     := .split
  absentCsrs     := []

/-- The expander's failure sentinel (00_scope.md R8; 48_compressed_expander.md R301). -/
def sentinel : Word32 := 0xFFFFFFFF#32

/-- The value this model gives the OPEN parameter `RESET_VECTOR` (70_reset_and_hazards.md R401): the start address of the
spec's example programs (95_test_vectors.md Part C). DESIGN CHOICE (log entry 3), unsafe. -/
def Config.resetVector : Word := 0x80000000#64

/-- Free value: which of the memories since the last FENCE.I a fetch sees (92_eei_decisions.md D30; log entry 2). -/
opaque Config.freeFetch : Nat → Nat

/-- Free value: what mtval holds after an exception for which 60_exceptions.md R381 states no value (log entry 10). -/
opaque Config.freeTval : Nat → BitVec 64

/-- Free value: what a read of cycle, time or instret gives (60_exceptions.md R390; log entry 7). -/
opaque Config.freeCounter : Nat → BitVec 64

end Sys2Proof
end

