-- ==== Sys2Proof/Machine/Words.lean ====
section
/-! DEFINITION. The fields of a standard word, its immediates and the word constructors that put fields together
(30_encoding.md R61 to R79; 48_compressed_expander.md R302). Every accessor is a total function of the word (R69). -/

namespace Sys2Proof.Machine

/-! ## Dispatch and register fields (R61, R62) -/

def opcode (w : Word32) : BitVec 7 := w.extractLsb' 0 7
def funct3 (w : Word32) : BitVec 3 := w.extractLsb' 12 3
def funct7 (w : Word32) : BitVec 7 := w.extractLsb' 25 7
def funct6 (w : Word32) : BitVec 6 := w.extractLsb' 26 6
def rdField (w : Word32) : RegIdx := w.extractLsb' 7 5
def rs1Field (w : Word32) : RegIdx := w.extractLsb' 15 5
def rs2Field (w : Word32) : RegIdx := w.extractLsb' 20 5

/-! ## Immediate fields before extension -/

/-- w[31:20], the I immediate and the CSR address (R70, R78). -/
def immI12 (w : Word32) : BitVec 12 := w.extractLsb' 20 12

/-- w[31:25] ++ w[11:7] (R71). -/
def immS12 (w : Word32) : BitVec 12 := w.extractLsb' 25 7 ++ w.extractLsb' 7 5

/-- w[31] ++ w[7] ++ w[30:25] ++ w[11:8] ++ 0 (R73). -/
def immB13 (w : Word32) : BitVec 13 :=
  w.extractLsb' 31 1 ++ w.extractLsb' 7 1 ++ w.extractLsb' 25 6 ++ w.extractLsb' 8 4 ++ 0#1

/-- w[31:12] (R74). -/
def immU20 (w : Word32) : BitVec 20 := w.extractLsb' 12 20

/-- w[31] ++ w[19:12] ++ w[20] ++ w[30:21] ++ 0 (R75). -/
def immJ21 (w : Word32) : BitVec 21 :=
  w.extractLsb' 31 1 ++ w.extractLsb' 12 8 ++ w.extractLsb' 20 1 ++ w.extractLsb' 21 10 ++ 0#1

/-! ## Accessor values (R69 to R79) -/

/-- imm_I (R70). -/
def immI (w : Word32) : Word := (immI12 w).signExtend 64

/-- imm_S (R71). -/
def immS (w : Word32) : Word := (immS12 w).signExtend 64

/-- imm_B (R73). -/
def immB (w : Word32) : Word := (immB13 w).signExtend 64

/-- imm_U: zero-extended, not sign-extended (R74, 90_conflicts.md C6). -/
def immU (w : Word32) : Word := (immU20 w ++ 0#12 : BitVec 32).zeroExtend 64

/-- imm_J (R75). -/
def immJ (w : Word32) : Word := (immJ21 w).signExtend 64

def shamt6 (w : Word32) : BitVec 6 := w.extractLsb' 20 6
def shamt5 (w : Word32) : BitVec 5 := w.extractLsb' 20 5
def predField (w : Word32) : BitVec 4 := w.extractLsb' 24 4
def succField (w : Word32) : BitVec 4 := w.extractLsb' 20 4
def fmField (w : Word32) : BitVec 4 := w.extractLsb' 28 4
def csrField (w : Word32) : CsrIdx := w.extractLsb' 20 12
def zimmField (w : Word32) : BitVec 5 := w.extractLsb' 15 5

/-! ## Word constructors: the formats of R63 to R66 and of 48_compressed_expander.md R302 -/

/-- `R_(f7, rs2, rs1, f3, rd, op)`. -/
def wordR (f7 : BitVec 7) (rs2 rs1 : RegIdx) (f3 : BitVec 3) (rd : RegIdx) (op : BitVec 7) : Word32 :=
  f7 ++ rs2 ++ rs1 ++ f3 ++ rd ++ op

/-- `I_(imm, rs1, f3, rd, op)`. -/
def wordI (imm : BitVec 12) (rs1 : RegIdx) (f3 : BitVec 3) (rd : RegIdx) (op : BitVec 7) : Word32 :=
  imm ++ rs1 ++ f3 ++ rd ++ op

/-- `S_(imm, rs2, rs1, f3, op)`. -/
def wordS (imm : BitVec 12) (rs2 rs1 : RegIdx) (f3 : BitVec 3) (op : BitVec 7) : Word32 :=
  imm.extractLsb' 5 7 ++ rs2 ++ rs1 ++ f3 ++ imm.extractLsb' 0 5 ++ op

/-- `B_(imm, rs2, rs1, f3, op)`; imm[0] is not encoded. -/
def wordB (imm : BitVec 13) (rs2 rs1 : RegIdx) (f3 : BitVec 3) (op : BitVec 7) : Word32 :=
  imm.extractLsb' 12 1 ++ imm.extractLsb' 5 6 ++ rs2 ++ rs1 ++ f3 ++ imm.extractLsb' 1 4 ++ imm.extractLsb' 11 1 ++ op

/-- `U_(imm20, rd, op)`. -/
def wordU (imm : BitVec 20) (rd : RegIdx) (op : BitVec 7) : Word32 :=
  imm ++ rd ++ op

/-- `J_(imm, rd, op)`; imm[0] is not encoded. -/
def wordJ (imm : BitVec 21) (rd : RegIdx) (op : BitVec 7) : Word32 :=
  imm.extractLsb' 20 1 ++ imm.extractLsb' 1 10 ++ imm.extractLsb' 11 1 ++ imm.extractLsb' 12 8 ++ rd ++ op

/-- `SH_(f6, shamt, rs1, f3, rd)`, opcode OP-IMM. -/
def wordShift64 (f6 shamt : BitVec 6) (rs1 : RegIdx) (f3 : BitVec 3) (rd : RegIdx) : Word32 :=
  f6 ++ shamt ++ rs1 ++ f3 ++ rd ++ 0b0010011#7

/-- The Shift32 format of R64, opcode OP-IMM-32. -/
def wordShift32 (f7 : BitVec 7) (shamt : BitVec 5) (rs1 : RegIdx) (f3 : BitVec 3) (rd : RegIdx) : Word32 :=
  f7 ++ shamt ++ rs1 ++ f3 ++ rd ++ 0b0011011#7

/-- The Fence format of R65. -/
def wordFence (fm pred succ : BitVec 4) (rs1 rd : RegIdx) : Word32 :=
  fm ++ pred ++ succ ++ rs1 ++ 0b000#3 ++ rd ++ 0b0001111#7

/-! ## Compressed fields (R95, R97; 48_compressed_expander.md R302) -/

def quadrant (h : Half) : BitVec 2 := h.extractLsb' 0 2
def cfunct3 (h : Half) : BitVec 3 := h.extractLsb' 13 3

/-- h[11:7], rd and rs1 of the CR, CI and CSS forms. -/
def cRd (h : Half) : RegIdx := h.extractLsb' 7 5

/-- h[6:2], rs2 of the CR and CSS forms. -/
def cRs2 (h : Half) : RegIdx := h.extractLsb' 2 5

/-- h[4:2], the rd′ or rs2′ field. -/
def cRdp (h : Half) : PopIdx := h.extractLsb' 2 3

/-- h[9:7], the rs1′ or rd′/rs1′ field. -/
def cRs1p (h : Half) : PopIdx := h.extractLsb' 7 3

/-- A popular field names register field + 8 (R97). -/
def popular (r : PopIdx) : RegIdx := r.zeroExtend 5 + 8

/-- `uimm6 = h[12] ++ h[6:2]`; `imm6` is the same bits read as signed. -/
def uimm6 (h : Half) : BitVec 6 := h.extractLsb' 12 1 ++ h.extractLsb' 2 5

/-! ## Compressed immediates (48_compressed_expander.md R310 to R342) -/

/-- R310: h[10:7] ++ h[12:11] ++ h[5] ++ h[6] ++ 00. -/
def cImmAddi4spn (h : Half) : BitVec 10 :=
  h.extractLsb' 7 4 ++ h.extractLsb' 11 2 ++ h.extractLsb' 5 1 ++ h.extractLsb' 6 1 ++ 0#2

/-- R311, R313: h[5] ++ h[12:10] ++ h[6] ++ 00. -/
def cImmLw (h : Half) : BitVec 7 :=
  h.extractLsb' 5 1 ++ h.extractLsb' 10 3 ++ h.extractLsb' 6 1 ++ 0#2

/-- R312, R314: h[6:5] ++ h[12:10] ++ 000. -/
def cImmLd (h : Half) : BitVec 8 :=
  h.extractLsb' 5 2 ++ h.extractLsb' 10 3 ++ 0#3

/-- R319: h[12] ++ h[4:3] ++ h[5] ++ h[2] ++ h[6] ++ 0000. -/
def cImmAddi16sp (h : Half) : BitVec 10 :=
  h.extractLsb' 12 1 ++ h.extractLsb' 3 2 ++ h.extractLsb' 5 1 ++ h.extractLsb' 2 1 ++ h.extractLsb' 6 1 ++ 0#4

/-- R330: h[12] ++ h[8] ++ h[10:9] ++ h[6] ++ h[7] ++ h[2] ++ h[11] ++ h[5:3] ++ 0. -/
def cImmJ (h : Half) : BitVec 12 :=
  h.extractLsb' 12 1 ++ h.extractLsb' 8 1 ++ h.extractLsb' 9 2 ++ h.extractLsb' 6 1 ++ h.extractLsb' 7 1 ++
    h.extractLsb' 2 1 ++ h.extractLsb' 11 1 ++ h.extractLsb' 3 3 ++ 0#1

/-- R331, R332: h[12] ++ h[6:5] ++ h[2] ++ h[11:10] ++ h[4:3] ++ 0. -/
def cImmB (h : Half) : BitVec 9 :=
  h.extractLsb' 12 1 ++ h.extractLsb' 5 2 ++ h.extractLsb' 2 1 ++ h.extractLsb' 10 2 ++ h.extractLsb' 3 2 ++ 0#1

/-- R334: h[3:2] ++ h[12] ++ h[6:4] ++ 00. -/
def cImmLwsp (h : Half) : BitVec 8 :=
  h.extractLsb' 2 2 ++ h.extractLsb' 12 1 ++ h.extractLsb' 4 3 ++ 0#2

/-- R335: h[4:2] ++ h[12] ++ h[6:5] ++ 000. -/
def cImmLdsp (h : Half) : BitVec 9 :=
  h.extractLsb' 2 3 ++ h.extractLsb' 12 1 ++ h.extractLsb' 5 2 ++ 0#3

/-- R341: h[8:7] ++ h[12:9] ++ 00. -/
def cImmSwsp (h : Half) : BitVec 8 :=
  h.extractLsb' 7 2 ++ h.extractLsb' 9 4 ++ 0#2

/-- R342: h[9:7] ++ h[12:10] ++ 000. -/
def cImmSdsp (h : Half) : BitVec 9 :=
  h.extractLsb' 7 3 ++ h.extractLsb' 10 3 ++ 0#3

end Sys2Proof.Machine
end

