-- ==== Sys2Proof/Machine/Instruction.lean ====
section
/-! DEFINITION. The block's output values: the carriers and their accessors (30_encoding.md R80 to R82), the closed set of
73 `Instruction` variants with their tags (40_dispatch.md R127), the two decoding errors and the outcome (R120). -/

namespace Sys2Proof.Machine

/-! ## Carriers: each holds one 32-bit word and nothing else (R81) -/

/-- The R carrier (R80). -/
structure CarrierR where
  word : Word32
  deriving DecidableEq, Repr

/-- The I carrier (R80). -/
structure CarrierI where
  word : Word32
  deriving DecidableEq, Repr

/-- The S carrier (R80). -/
structure CarrierS where
  word : Word32
  deriving DecidableEq, Repr

/-- The B carrier (R80). -/
structure CarrierB where
  word : Word32
  deriving DecidableEq, Repr

/-- The U carrier (R80). -/
structure CarrierU where
  word : Word32
  deriving DecidableEq, Repr

/-- The J carrier (R80). -/
structure CarrierJ where
  word : Word32
  deriving DecidableEq, Repr

/-- The Shift64 carrier (R80). -/
structure CarrierShift64 where
  word : Word32
  deriving DecidableEq, Repr

/-- The Shift32 carrier (R80). -/
structure CarrierShift32 where
  word : Word32
  deriving DecidableEq, Repr

/-- The Fence carrier (R80). -/
structure CarrierFence where
  word : Word32
  deriving DecidableEq, Repr

/-- The Csr carrier (R80). -/
structure CarrierCsr where
  word : Word32
  deriving DecidableEq, Repr

/-- The CsrImm carrier (R80). -/
structure CarrierCsrImm where
  word : Word32
  deriving DecidableEq, Repr

/-! ## Accessors: derived functions of the word (R80, R81) -/

def CarrierR.rd (c : CarrierR) : RegIdx := rdField c.word
def CarrierR.rs1 (c : CarrierR) : RegIdx := rs1Field c.word
def CarrierR.rs2 (c : CarrierR) : RegIdx := rs2Field c.word

def CarrierI.rd (c : CarrierI) : RegIdx := rdField c.word
def CarrierI.rs1 (c : CarrierI) : RegIdx := rs1Field c.word
def CarrierI.imm (c : CarrierI) : Word := immI c.word

def CarrierS.rs1 (c : CarrierS) : RegIdx := rs1Field c.word
def CarrierS.rs2 (c : CarrierS) : RegIdx := rs2Field c.word
def CarrierS.imm (c : CarrierS) : Word := immS c.word

def CarrierB.rs1 (c : CarrierB) : RegIdx := rs1Field c.word
def CarrierB.rs2 (c : CarrierB) : RegIdx := rs2Field c.word
def CarrierB.imm (c : CarrierB) : Word := immB c.word

def CarrierU.rd (c : CarrierU) : RegIdx := rdField c.word
def CarrierU.imm (c : CarrierU) : Word := immU c.word

def CarrierJ.rd (c : CarrierJ) : RegIdx := rdField c.word
def CarrierJ.imm (c : CarrierJ) : Word := immJ c.word

def CarrierShift64.rd (c : CarrierShift64) : RegIdx := rdField c.word
def CarrierShift64.rs1 (c : CarrierShift64) : RegIdx := rs1Field c.word
def CarrierShift64.shamt (c : CarrierShift64) : BitVec 6 := shamt6 c.word

def CarrierShift32.rd (c : CarrierShift32) : RegIdx := rdField c.word
def CarrierShift32.rs1 (c : CarrierShift32) : RegIdx := rs1Field c.word
def CarrierShift32.shamt (c : CarrierShift32) : BitVec 5 := shamt5 c.word

def CarrierFence.rd (c : CarrierFence) : RegIdx := rdField c.word
def CarrierFence.rs1 (c : CarrierFence) : RegIdx := rs1Field c.word
def CarrierFence.pred (c : CarrierFence) : BitVec 4 := predField c.word
def CarrierFence.succ (c : CarrierFence) : BitVec 4 := succField c.word
def CarrierFence.fm (c : CarrierFence) : BitVec 4 := fmField c.word

def CarrierCsr.rd (c : CarrierCsr) : RegIdx := rdField c.word
def CarrierCsr.rs1 (c : CarrierCsr) : RegIdx := rs1Field c.word
def CarrierCsr.csr (c : CarrierCsr) : CsrIdx := csrField c.word

def CarrierCsrImm.rd (c : CarrierCsrImm) : RegIdx := rdField c.word
def CarrierCsrImm.csr (c : CarrierCsrImm) : CsrIdx := csrField c.word
def CarrierCsrImm.zimm (c : CarrierCsrImm) : BitVec 5 := zimmField c.word

/-! ## Variants -/

/-- The closed sum of decoded instructions; each variant owns one carrier (R127, R141). -/
inductive Instruction where
  | illegal (c : CarrierI)
  | lui (c : CarrierU)
  | auipc (c : CarrierU)
  | jal (c : CarrierJ)
  | jalr (c : CarrierI)
  | beq (c : CarrierB)
  | bne (c : CarrierB)
  | blt (c : CarrierB)
  | bge (c : CarrierB)
  | bltu (c : CarrierB)
  | bgeu (c : CarrierB)
  | lb (c : CarrierI)
  | lh (c : CarrierI)
  | lw (c : CarrierI)
  | ld (c : CarrierI)
  | lbu (c : CarrierI)
  | lhu (c : CarrierI)
  | lwu (c : CarrierI)
  | sb (c : CarrierS)
  | sh (c : CarrierS)
  | sw (c : CarrierS)
  | sd (c : CarrierS)
  | addi (c : CarrierI)
  | slti (c : CarrierI)
  | sltiu (c : CarrierI)
  | xori (c : CarrierI)
  | ori (c : CarrierI)
  | andi (c : CarrierI)
  | slli (c : CarrierShift64)
  | srli (c : CarrierShift64)
  | srai (c : CarrierShift64)
  | add (c : CarrierR)
  | sub (c : CarrierR)
  | sll (c : CarrierR)
  | slt (c : CarrierR)
  | sltu (c : CarrierR)
  | xor (c : CarrierR)
  | srl (c : CarrierR)
  | sra (c : CarrierR)
  | or (c : CarrierR)
  | and (c : CarrierR)
  | mul (c : CarrierR)
  | mulh (c : CarrierR)
  | mulhsu (c : CarrierR)
  | mulhu (c : CarrierR)
  | div (c : CarrierR)
  | divu (c : CarrierR)
  | rem (c : CarrierR)
  | remu (c : CarrierR)
  | addiw (c : CarrierI)
  | slliw (c : CarrierShift32)
  | srliw (c : CarrierShift32)
  | sraiw (c : CarrierShift32)
  | addw (c : CarrierR)
  | subw (c : CarrierR)
  | sllw (c : CarrierR)
  | srlw (c : CarrierR)
  | sraw (c : CarrierR)
  | mulw (c : CarrierR)
  | divw (c : CarrierR)
  | divuw (c : CarrierR)
  | remw (c : CarrierR)
  | remuw (c : CarrierR)
  | fence (c : CarrierFence)
  | fenceI (c : CarrierI)
  | ecall (c : CarrierI)
  | ebreak (c : CarrierI)
  | csrrw (c : CarrierCsr)
  | csrrs (c : CarrierCsr)
  | csrrc (c : CarrierCsr)
  | csrrwi (c : CarrierCsrImm)
  | csrrsi (c : CarrierCsrImm)
  | csrrci (c : CarrierCsrImm)
  deriving DecidableEq, Repr

/-- The word the carrier holds (R80). -/
def Instruction.word : Instruction → Word32
  | .illegal c => c.word
  | .lui c => c.word
  | .auipc c => c.word
  | .jal c => c.word
  | .jalr c => c.word
  | .beq c => c.word
  | .bne c => c.word
  | .blt c => c.word
  | .bge c => c.word
  | .bltu c => c.word
  | .bgeu c => c.word
  | .lb c => c.word
  | .lh c => c.word
  | .lw c => c.word
  | .ld c => c.word
  | .lbu c => c.word
  | .lhu c => c.word
  | .lwu c => c.word
  | .sb c => c.word
  | .sh c => c.word
  | .sw c => c.word
  | .sd c => c.word
  | .addi c => c.word
  | .slti c => c.word
  | .sltiu c => c.word
  | .xori c => c.word
  | .ori c => c.word
  | .andi c => c.word
  | .slli c => c.word
  | .srli c => c.word
  | .srai c => c.word
  | .add c => c.word
  | .sub c => c.word
  | .sll c => c.word
  | .slt c => c.word
  | .sltu c => c.word
  | .xor c => c.word
  | .srl c => c.word
  | .sra c => c.word
  | .or c => c.word
  | .and c => c.word
  | .mul c => c.word
  | .mulh c => c.word
  | .mulhsu c => c.word
  | .mulhu c => c.word
  | .div c => c.word
  | .divu c => c.word
  | .rem c => c.word
  | .remu c => c.word
  | .addiw c => c.word
  | .slliw c => c.word
  | .srliw c => c.word
  | .sraiw c => c.word
  | .addw c => c.word
  | .subw c => c.word
  | .sllw c => c.word
  | .srlw c => c.word
  | .sraw c => c.word
  | .mulw c => c.word
  | .divw c => c.word
  | .divuw c => c.word
  | .remw c => c.word
  | .remuw c => c.word
  | .fence c => c.word
  | .fenceI c => c.word
  | .ecall c => c.word
  | .ebreak c => c.word
  | .csrrw c => c.word
  | .csrrs c => c.word
  | .csrrc c => c.word
  | .csrrwi c => c.word
  | .csrrsi c => c.word
  | .csrrci c => c.word

/-- The variant's tag (R127). -/
def Instruction.tag : Instruction → BitVec 7
  | .illegal _ => 0
  | .lui _ => 1
  | .auipc _ => 2
  | .jal _ => 3
  | .jalr _ => 4
  | .beq _ => 5
  | .bne _ => 6
  | .blt _ => 7
  | .bge _ => 8
  | .bltu _ => 9
  | .bgeu _ => 10
  | .lb _ => 11
  | .lh _ => 12
  | .lw _ => 13
  | .ld _ => 14
  | .lbu _ => 15
  | .lhu _ => 16
  | .lwu _ => 17
  | .sb _ => 18
  | .sh _ => 19
  | .sw _ => 20
  | .sd _ => 21
  | .addi _ => 22
  | .slti _ => 23
  | .sltiu _ => 24
  | .xori _ => 25
  | .ori _ => 26
  | .andi _ => 27
  | .slli _ => 28
  | .srli _ => 29
  | .srai _ => 30
  | .add _ => 31
  | .sub _ => 32
  | .sll _ => 33
  | .slt _ => 34
  | .sltu _ => 35
  | .xor _ => 36
  | .srl _ => 37
  | .sra _ => 38
  | .or _ => 39
  | .and _ => 40
  | .mul _ => 41
  | .mulh _ => 42
  | .mulhsu _ => 43
  | .mulhu _ => 44
  | .div _ => 45
  | .divu _ => 46
  | .rem _ => 47
  | .remu _ => 48
  | .addiw _ => 49
  | .slliw _ => 50
  | .srliw _ => 51
  | .sraiw _ => 52
  | .addw _ => 53
  | .subw _ => 54
  | .sllw _ => 55
  | .srlw _ => 56
  | .sraw _ => 57
  | .mulw _ => 58
  | .divw _ => 59
  | .divuw _ => 60
  | .remw _ => 61
  | .remuw _ => 62
  | .fence _ => 63
  | .fenceI _ => 64
  | .ecall _ => 65
  | .ebreak _ => 66
  | .csrrw _ => 67
  | .csrrs _ => 68
  | .csrrc _ => 69
  | .csrrwi _ => 70
  | .csrrsi _ => 71
  | .csrrci _ => 72

/-! ## Outcomes -/

/-- The closed error kinds of a decode (R120). -/
inductive DecodingError where
  | unimplemented
  | illegal
  deriving DecidableEq, Repr

/-- A decode outcome: `Ok` of an instruction or `Err` of an error (R120). -/
abbrev DecodeOutcome := Except DecodingError Instruction

end Sys2Proof.Machine
end

