-- ==== Sys2Proof/Machine/Standard.lean ====
section
/-! DEFINITION. The standard 32-bit decoder: the 72 standard rows of the opcode table and `decode32`
(40_dispatch.md R123 to R128), with the class of a 32-bit word (49_validator.md R360). -/

namespace Sys2Proof.Machine

/-- One standard row of spec/opcode_table.json: a word w is this row's when w &&& mask = pattern. -/
structure Row where
  pattern : Word32
  mask    : Word32
  build   : Word32 → Instruction

/-- The step-5 condition of R123. -/
def Row.matches (r : Row) (w : Word32) : Bool := w &&& r.mask == r.pattern

/-- 41_upper_jump_branch.md R150 to R159. -/
def upperJumpBranchRows : List Row := [
  ⟨0x00000037#32, 0x0000007F#32, fun w => .lui ⟨w⟩⟩,
  ⟨0x00000017#32, 0x0000007F#32, fun w => .auipc ⟨w⟩⟩,
  ⟨0x0000006F#32, 0x0000007F#32, fun w => .jal ⟨w⟩⟩,
  ⟨0x00000067#32, 0x0000707F#32, fun w => .jalr ⟨w⟩⟩,
  ⟨0x00000063#32, 0x0000707F#32, fun w => .beq ⟨w⟩⟩,
  ⟨0x00001063#32, 0x0000707F#32, fun w => .bne ⟨w⟩⟩,
  ⟨0x00004063#32, 0x0000707F#32, fun w => .blt ⟨w⟩⟩,
  ⟨0x00005063#32, 0x0000707F#32, fun w => .bge ⟨w⟩⟩,
  ⟨0x00006063#32, 0x0000707F#32, fun w => .bltu ⟨w⟩⟩,
  ⟨0x00007063#32, 0x0000707F#32, fun w => .bgeu ⟨w⟩⟩]

/-- 42_load_store.md R170 to R180. -/
def loadStoreRows : List Row := [
  ⟨0x00000003#32, 0x0000707F#32, fun w => .lb ⟨w⟩⟩,
  ⟨0x00001003#32, 0x0000707F#32, fun w => .lh ⟨w⟩⟩,
  ⟨0x00002003#32, 0x0000707F#32, fun w => .lw ⟨w⟩⟩,
  ⟨0x00003003#32, 0x0000707F#32, fun w => .ld ⟨w⟩⟩,
  ⟨0x00004003#32, 0x0000707F#32, fun w => .lbu ⟨w⟩⟩,
  ⟨0x00005003#32, 0x0000707F#32, fun w => .lhu ⟨w⟩⟩,
  ⟨0x00006003#32, 0x0000707F#32, fun w => .lwu ⟨w⟩⟩,
  ⟨0x00000023#32, 0x0000707F#32, fun w => .sb ⟨w⟩⟩,
  ⟨0x00001023#32, 0x0000707F#32, fun w => .sh ⟨w⟩⟩,
  ⟨0x00002023#32, 0x0000707F#32, fun w => .sw ⟨w⟩⟩,
  ⟨0x00003023#32, 0x0000707F#32, fun w => .sd ⟨w⟩⟩]

/-- 43_int_imm.md R190 to R198. -/
def intImmRows : List Row := [
  ⟨0x00000013#32, 0x0000707F#32, fun w => .addi ⟨w⟩⟩,
  ⟨0x00002013#32, 0x0000707F#32, fun w => .slti ⟨w⟩⟩,
  ⟨0x00003013#32, 0x0000707F#32, fun w => .sltiu ⟨w⟩⟩,
  ⟨0x00004013#32, 0x0000707F#32, fun w => .xori ⟨w⟩⟩,
  ⟨0x00006013#32, 0x0000707F#32, fun w => .ori ⟨w⟩⟩,
  ⟨0x00007013#32, 0x0000707F#32, fun w => .andi ⟨w⟩⟩,
  ⟨0x00001013#32, 0xFC00707F#32, fun w => .slli ⟨w⟩⟩,
  ⟨0x00005013#32, 0xFC00707F#32, fun w => .srli ⟨w⟩⟩,
  ⟨0x40005013#32, 0xFC00707F#32, fun w => .srai ⟨w⟩⟩]

/-- 44_int_reg.md R210 to R227. -/
def intRegRows : List Row := [
  ⟨0x00000033#32, 0xFE00707F#32, fun w => .add ⟨w⟩⟩,
  ⟨0x40000033#32, 0xFE00707F#32, fun w => .sub ⟨w⟩⟩,
  ⟨0x00001033#32, 0xFE00707F#32, fun w => .sll ⟨w⟩⟩,
  ⟨0x00002033#32, 0xFE00707F#32, fun w => .slt ⟨w⟩⟩,
  ⟨0x00003033#32, 0xFE00707F#32, fun w => .sltu ⟨w⟩⟩,
  ⟨0x00004033#32, 0xFE00707F#32, fun w => .xor ⟨w⟩⟩,
  ⟨0x00005033#32, 0xFE00707F#32, fun w => .srl ⟨w⟩⟩,
  ⟨0x40005033#32, 0xFE00707F#32, fun w => .sra ⟨w⟩⟩,
  ⟨0x00006033#32, 0xFE00707F#32, fun w => .or ⟨w⟩⟩,
  ⟨0x00007033#32, 0xFE00707F#32, fun w => .and ⟨w⟩⟩,
  ⟨0x02000033#32, 0xFE00707F#32, fun w => .mul ⟨w⟩⟩,
  ⟨0x02001033#32, 0xFE00707F#32, fun w => .mulh ⟨w⟩⟩,
  ⟨0x02002033#32, 0xFE00707F#32, fun w => .mulhsu ⟨w⟩⟩,
  ⟨0x02003033#32, 0xFE00707F#32, fun w => .mulhu ⟨w⟩⟩,
  ⟨0x02004033#32, 0xFE00707F#32, fun w => .div ⟨w⟩⟩,
  ⟨0x02005033#32, 0xFE00707F#32, fun w => .divu ⟨w⟩⟩,
  ⟨0x02006033#32, 0xFE00707F#32, fun w => .rem ⟨w⟩⟩,
  ⟨0x02007033#32, 0xFE00707F#32, fun w => .remu ⟨w⟩⟩]

/-- 45_word_ops.md R240 to R253. -/
def wordOpRows : List Row := [
  ⟨0x0000001B#32, 0x0000707F#32, fun w => .addiw ⟨w⟩⟩,
  ⟨0x0000101B#32, 0xFE00707F#32, fun w => .slliw ⟨w⟩⟩,
  ⟨0x0000501B#32, 0xFE00707F#32, fun w => .srliw ⟨w⟩⟩,
  ⟨0x4000501B#32, 0xFE00707F#32, fun w => .sraiw ⟨w⟩⟩,
  ⟨0x0000003B#32, 0xFE00707F#32, fun w => .addw ⟨w⟩⟩,
  ⟨0x4000003B#32, 0xFE00707F#32, fun w => .subw ⟨w⟩⟩,
  ⟨0x0000103B#32, 0xFE00707F#32, fun w => .sllw ⟨w⟩⟩,
  ⟨0x0000503B#32, 0xFE00707F#32, fun w => .srlw ⟨w⟩⟩,
  ⟨0x4000503B#32, 0xFE00707F#32, fun w => .sraw ⟨w⟩⟩,
  ⟨0x0200003B#32, 0xFE00707F#32, fun w => .mulw ⟨w⟩⟩,
  ⟨0x0200403B#32, 0xFE00707F#32, fun w => .divw ⟨w⟩⟩,
  ⟨0x0200503B#32, 0xFE00707F#32, fun w => .divuw ⟨w⟩⟩,
  ⟨0x0200603B#32, 0xFE00707F#32, fun w => .remw ⟨w⟩⟩,
  ⟨0x0200703B#32, 0xFE00707F#32, fun w => .remuw ⟨w⟩⟩]

/-- 46_fence_system_csr.md R260 to R269. -/
def fenceSystemCsrRows : List Row := [
  ⟨0x0000000F#32, 0x0000707F#32, fun w => .fence ⟨w⟩⟩,
  ⟨0x0000100F#32, 0x0000707F#32, fun w => .fenceI ⟨w⟩⟩,
  ⟨0x00000073#32, 0xFFFFFFFF#32, fun w => .ecall ⟨w⟩⟩,
  ⟨0x00100073#32, 0xFFFFFFFF#32, fun w => .ebreak ⟨w⟩⟩,
  ⟨0x00001073#32, 0x0000707F#32, fun w => .csrrw ⟨w⟩⟩,
  ⟨0x00002073#32, 0x0000707F#32, fun w => .csrrs ⟨w⟩⟩,
  ⟨0x00003073#32, 0x0000707F#32, fun w => .csrrc ⟨w⟩⟩,
  ⟨0x00005073#32, 0x0000707F#32, fun w => .csrrwi ⟨w⟩⟩,
  ⟨0x00006073#32, 0x0000707F#32, fun w => .csrrsi ⟨w⟩⟩,
  ⟨0x00007073#32, 0x0000707F#32, fun w => .csrrci ⟨w⟩⟩]

/-- The 72 standard rows, pairwise disjoint (R128). -/
def standardRows : List Row :=
  upperJumpBranchRows ++ loadStoreRows ++ intImmRows ++ intRegRows ++ wordOpRows ++ fenceSystemCsrRows

/-- The major opcodes of recognised but unsupported spaces (R125). -/
def unimplementedOpcodes : List (BitVec 7) :=
  [0b0000111, 0b0100111, 0b0101111, 0b1000011, 0b1000111, 0b1001011, 0b1001111, 0b1010011, 0b1010111,
   0b0001011, 0b0101011, 0b1011011, 0b1111011]

/-- The privileged SYSTEM space (R126). -/
def inPrivilegedSpace (w : Word32) : Bool :=
  opcode w == 0b1110011 && (funct3 w == 0b000 || funct3 w == 0b100)

/-- Steps 5 to 8 of R123. -/
def decodeRows (w : Word32) : DecodeOutcome :=
  match standardRows.find? (fun r => r.matches w) with
  | some r => .ok (r.build w)
  | none =>
    if unimplementedOpcodes.contains (opcode w) then .error .unimplemented
    else if inPrivilegedSpace w then .error .unimplemented
    else .error .illegal

/-- The standard decoder, its steps in the order of R123. -/
def decode32 (w : Word32) : DecodeOutcome :=
  if w == 0x00000000#32 then .ok (.illegal ⟨w⟩)
  else if w == 0xFFFFFFFF#32 then .error .illegal
  else if w.extractLsb' 0 2 != 0b11#2 then .error .illegal
  else if w.extractLsb' 2 3 == 0b111#3 then .error .unimplemented
  else decodeRows w

end Sys2Proof.Machine
end

