-- ==== Sys2Proof/Machine/Validator.lean ====
section
/-! DEFINITION. The encoding validator: the legality table `classify16` (49_validator.md R350, R351) and the
classes of 32-bit words (R360). -/

namespace Sys2Proof.Machine

/-- The six classes of R350. -/
inductive EncodingClass where
  | legal
  | illegalZero
  | reserved
  | hint
  | unsupported
  | notCompressed
  deriving DecidableEq, Repr

/-- The code of a class on the `cls16` port (R350). -/
def EncodingClass.code : EncodingClass → BitVec 3
  | .legal => 0
  | .illegalZero => 1
  | .reserved => 2
  | .hint => 3
  | .unsupported => 4
  | .notCompressed => 5

/-- The compressed forms named in the last column of R351; `q0Reserved` is (Q0-100), `q1Reserved` is (Q1-100-1-11-1x). -/
inductive Form where
  | cIllegal
  | cAddi4spn
  | cLw
  | cLd
  | cSw
  | cSd
  | cNop
  | cAddi
  | cAddiw
  | cLi
  | cAddi16sp
  | cLui
  | cSrli
  | cSrai
  | cAndi
  | cSub
  | cXor
  | cOr
  | cAnd
  | cSubw
  | cAddw
  | cJ
  | cBeqz
  | cBnez
  | cSlli
  | cLwsp
  | cLdsp
  | cJr
  | cMv
  | cEbreak
  | cJalr
  | cAdd
  | cSwsp
  | cSdsp
  | cFld
  | cFsd
  | cFldsp
  | cFsdsp
  | q0Reserved
  | q1Reserved
  deriving DecidableEq, Repr

/-- Rows 3 to 11 of R351. -/
def classifyQ0 (h : Half) : EncodingClass × Form :=
  match cfunct3 h with
  | 0b000#3 => if h.extractLsb' 5 8 == 0#8 then (.reserved, .cAddi4spn) else (.legal, .cAddi4spn)
  | 0b001#3 => (.unsupported, .cFld)
  | 0b010#3 => (.legal, .cLw)
  | 0b011#3 => (.legal, .cLd)
  | 0b100#3 => (.reserved, .q0Reserved)
  | 0b101#3 => (.unsupported, .cFsd)
  | 0b110#3 => (.legal, .cSw)
  | _ => (.legal, .cSd)

/-- Rows 25 to 32 of R351: quadrant 1, funct3 100. -/
def classifyQ1Alu (h : Half) : EncodingClass × Form :=
  match h.extractLsb' 10 2 with
  | 0b00#2 => if uimm6 h == 0#6 then (.hint, .cSrli) else (.legal, .cSrli)
  | 0b01#2 => if uimm6 h == 0#6 then (.hint, .cSrai) else (.legal, .cSrai)
  | 0b10#2 => (.legal, .cAndi)
  | _ =>
    match h.extractLsb' 12 1, h.extractLsb' 5 2 with
    | 0#1, 0b00#2 => (.legal, .cSub)
    | 0#1, 0b01#2 => (.legal, .cXor)
    | 0#1, 0b10#2 => (.legal, .cOr)
    | 0#1, _ => (.legal, .cAnd)
    | _, 0b00#2 => (.legal, .cSubw)
    | _, 0b01#2 => (.legal, .cAddw)
    | _, _ => (.reserved, .q1Reserved)

/-- Rows 20 to 24 of R351: quadrant 1, funct3 011. -/
def classifyQ1Upper (h : Half) : EncodingClass × Form :=
  if cRd h == 2#5 then
    if uimm6 h == 0#6 then (.reserved, .cAddi16sp) else (.legal, .cAddi16sp)
  else if uimm6 h == 0#6 then (.reserved, .cLui)
  else if cRd h == 0#5 then (.hint, .cLui)
  else (.legal, .cLui)

/-- Rows 12 to 35 of R351. -/
def classifyQ1 (h : Half) : EncodingClass × Form :=
  match cfunct3 h with
  | 0b000#3 =>
    if cRd h == 0#5 then (if uimm6 h == 0#6 then (.legal, .cNop) else (.hint, .cNop))
    else if uimm6 h != 0#6 then (.legal, .cAddi) else (.hint, .cAddi)
  | 0b001#3 => if cRd h == 0#5 then (.reserved, .cAddiw) else (.legal, .cAddiw)
  | 0b010#3 => if cRd h == 0#5 then (.hint, .cLi) else (.legal, .cLi)
  | 0b011#3 => classifyQ1Upper h
  | 0b100#3 => classifyQ1Alu h
  | 0b101#3 => (.legal, .cJ)
  | 0b110#3 => (.legal, .cBeqz)
  | _ => (.legal, .cBnez)

/-- Rows 43 to 50 of R351: quadrant 2, funct3 100. -/
def classifyQ2Reg (h : Half) : EncodingClass × Form :=
  if h.extractLsb' 12 1 == 0#1 then
    if cRs2 h == 0#5 then (if cRd h == 0#5 then (.reserved, .cJr) else (.legal, .cJr))
    else if cRd h == 0#5 then (.hint, .cMv) else (.legal, .cMv)
  else if cRs2 h == 0#5 then (if cRd h == 0#5 then (.legal, .cEbreak) else (.legal, .cJalr))
  else if cRd h == 0#5 then (.hint, .cAdd) else (.legal, .cAdd)

/-- Rows 36 to 53 of R351. -/
def classifyQ2 (h : Half) : EncodingClass × Form :=
  match cfunct3 h with
  | 0b000#3 => if cRd h == 0#5 || uimm6 h == 0#6 then (.hint, .cSlli) else (.legal, .cSlli)
  | 0b001#3 => (.unsupported, .cFldsp)
  | 0b010#3 => if cRd h == 0#5 then (.reserved, .cLwsp) else (.legal, .cLwsp)
  | 0b011#3 => if cRd h == 0#5 then (.reserved, .cLdsp) else (.legal, .cLdsp)
  | 0b100#3 => classifyQ2Reg h
  | 0b101#3 => (.unsupported, .cFsdsp)
  | 0b110#3 => (.legal, .cSwsp)
  | _ => (.legal, .cSdsp)

/-- `classify16(h)`: the class and the form; quadrant 3 has no form (R350, R351). -/
def classify16 (h : Half) : EncodingClass × Option Form :=
  if h == 0x0000#16 then (.illegalZero, some .cIllegal)
  else
    match quadrant h with
    | 0b00#2 => ((classifyQ0 h).1, some (classifyQ0 h).2)
    | 0b01#2 => ((classifyQ1 h).1, some (classifyQ1 h).2)
    | 0b10#2 => ((classifyQ2 h).1, some (classifyQ2 h).2)
    | _ => (.notCompressed, none)

/-- The class of a decoded variant (R360); closed, one arm per variant (40_dispatch.md R141). -/
def Instruction.encodingClass : Instruction → EncodingClass
  | .illegal _ => .illegalZero
  | .lui _ => .legal
  | .auipc _ => .legal
  | .jal _ => .legal
  | .jalr _ => .legal
  | .beq _ => .legal
  | .bne _ => .legal
  | .blt _ => .legal
  | .bge _ => .legal
  | .bltu _ => .legal
  | .bgeu _ => .legal
  | .lb _ => .legal
  | .lh _ => .legal
  | .lw _ => .legal
  | .ld _ => .legal
  | .lbu _ => .legal
  | .lhu _ => .legal
  | .lwu _ => .legal
  | .sb _ => .legal
  | .sh _ => .legal
  | .sw _ => .legal
  | .sd _ => .legal
  | .addi _ => .legal
  | .slti _ => .legal
  | .sltiu _ => .legal
  | .xori _ => .legal
  | .ori _ => .legal
  | .andi _ => .legal
  | .slli _ => .legal
  | .srli _ => .legal
  | .srai _ => .legal
  | .add _ => .legal
  | .sub _ => .legal
  | .sll _ => .legal
  | .slt _ => .legal
  | .sltu _ => .legal
  | .xor _ => .legal
  | .srl _ => .legal
  | .sra _ => .legal
  | .or _ => .legal
  | .and _ => .legal
  | .mul _ => .legal
  | .mulh _ => .legal
  | .mulhsu _ => .legal
  | .mulhu _ => .legal
  | .div _ => .legal
  | .divu _ => .legal
  | .rem _ => .legal
  | .remu _ => .legal
  | .addiw _ => .legal
  | .slliw _ => .legal
  | .srliw _ => .legal
  | .sraiw _ => .legal
  | .addw _ => .legal
  | .subw _ => .legal
  | .sllw _ => .legal
  | .srlw _ => .legal
  | .sraw _ => .legal
  | .mulw _ => .legal
  | .divw _ => .legal
  | .divuw _ => .legal
  | .remw _ => .legal
  | .remuw _ => .legal
  | .fence _ => .legal
  | .fenceI _ => .legal
  | .ecall _ => .legal
  | .ebreak _ => .legal
  | .csrrw _ => .legal
  | .csrrs _ => .legal
  | .csrrc _ => .legal
  | .csrrwi _ => .legal
  | .csrrsi _ => .legal
  | .csrrci _ => .legal

/-- The class of a decode outcome (R360). -/
def classOf : DecodeOutcome → EncodingClass
  | .ok v => v.encodingClass
  | .error .unimplemented => .unsupported
  | .error .illegal => .reserved

/-- `classify32(w)` (R360). -/
def classify32 (w : Word32) : EncodingClass := classOf (decode32 w)

end Sys2Proof.Machine
end

