-- ==== Sys2Proof/Machine/Expander.lean ====
section
/-! DEFINITION. The compressed expander: the word each legal form expands to and `expand` itself
(48_compressed_expander.md R300 to R346). -/

namespace Sys2Proof.Machine

/-- The stack pointer x2 and the link register x1, named implicitly by some forms (10_state.md R23). -/
def sp : RegIdx := 2#5
def ra : RegIdx := 1#5

/-- `EXPANSION[form](h)` (R302). A form that is never `Legal` has no expansion and gives the sentinel (R307). -/
def Form.expansion (f : Form) (h : Half) : Word32 :=
  let rd := cRd h
  let rs2 := cRs2 h
  let rdp := popular (cRdp h)
  let rs1p := popular (cRs1p h)
  let imm6 := (uimm6 h).signExtend 12
  match f with
  | .cAddi4spn => wordI ((cImmAddi4spn h).zeroExtend 12) sp 0b000 rdp 0b0010011
  | .cLw => wordI ((cImmLw h).zeroExtend 12) rs1p 0b010 rdp 0b0000011
  | .cLd => wordI ((cImmLd h).zeroExtend 12) rs1p 0b011 rdp 0b0000011
  | .cSw => wordS ((cImmLw h).zeroExtend 12) rdp rs1p 0b010 0b0100011
  | .cSd => wordS ((cImmLd h).zeroExtend 12) rdp rs1p 0b011 0b0100011
  | .cNop => wordI 0 0 0b000 0 0b0010011
  | .cAddi => wordI imm6 rd 0b000 rd 0b0010011
  | .cAddiw => wordI imm6 rd 0b000 rd 0b0011011
  | .cLi => wordI imm6 0 0b000 rd 0b0010011
  | .cAddi16sp => wordI ((cImmAddi16sp h).signExtend 12) sp 0b000 sp 0b0010011
  | .cLui => wordU ((uimm6 h).signExtend 20) rd 0b0110111
  | .cSrli => wordShift64 0b000000 (uimm6 h) rs1p 0b101 rs1p
  | .cSrai => wordShift64 0b010000 (uimm6 h) rs1p 0b101 rs1p
  | .cAndi => wordI imm6 rs1p 0b111 rs1p 0b0010011
  | .cSub => wordR 0b0100000 rdp rs1p 0b000 rs1p 0b0110011
  | .cXor => wordR 0b0000000 rdp rs1p 0b100 rs1p 0b0110011
  | .cOr => wordR 0b0000000 rdp rs1p 0b110 rs1p 0b0110011
  | .cAnd => wordR 0b0000000 rdp rs1p 0b111 rs1p 0b0110011
  | .cSubw => wordR 0b0100000 rdp rs1p 0b000 rs1p 0b0111011
  | .cAddw => wordR 0b0000000 rdp rs1p 0b000 rs1p 0b0111011
  | .cJ => wordJ ((cImmJ h).signExtend 21) 0 0b1101111
  | .cBeqz => wordB ((cImmB h).signExtend 13) 0 rs1p 0b000 0b1100011
  | .cBnez => wordB ((cImmB h).signExtend 13) 0 rs1p 0b001 0b1100011
  | .cSlli => wordShift64 0b000000 (uimm6 h) rd 0b001 rd
  | .cLwsp => wordI ((cImmLwsp h).zeroExtend 12) sp 0b010 rd 0b0000011
  | .cLdsp => wordI ((cImmLdsp h).zeroExtend 12) sp 0b011 rd 0b0000011
  | .cJr => wordI 0 rd 0b000 0 0b1100111
  | .cMv => wordR 0b0000000 rs2 0 0b000 rd 0b0110011
  | .cEbreak => 0x00100073
  | .cJalr => wordI 0 rd 0b000 ra 0b1100111
  | .cAdd => wordR 0b0000000 rs2 rd 0b000 rd 0b0110011
  | .cSwsp => wordS ((cImmSwsp h).zeroExtend 12) rs2 sp 0b010 0b0100011
  | .cSdsp => wordS ((cImmSdsp h).zeroExtend 12) rs2 sp 0b011 0b0100011
  | .cIllegal | .cFld | .cFsd | .cFldsp | .cFsdsp | .q0Reserved | .q1Reserved => sentinel

/-- The tag (40_dispatch.md R127) of the variant a form's own rule names (R310 to R342; the summary R344); none for a form
without an expansion. -/
def Form.variantTag : Form → Option (BitVec 7)
  | .cAddi4spn => some 22  -- Addi
  | .cLw => some 13  -- Lw
  | .cLd => some 14  -- Ld
  | .cSw => some 20  -- Sw
  | .cSd => some 21  -- Sd
  | .cNop => some 22  -- Addi
  | .cAddi => some 22  -- Addi
  | .cAddiw => some 49  -- Addiw
  | .cLi => some 22  -- Addi
  | .cAddi16sp => some 22  -- Addi
  | .cLui => some 1  -- Lui
  | .cSrli => some 29  -- Srli
  | .cSrai => some 30  -- Srai
  | .cAndi => some 27  -- Andi
  | .cSub => some 32  -- Sub
  | .cXor => some 36  -- Xor
  | .cOr => some 39  -- Or
  | .cAnd => some 40  -- And
  | .cSubw => some 54  -- Subw
  | .cAddw => some 53  -- Addw
  | .cJ => some 3  -- Jal
  | .cBeqz => some 5  -- Beq
  | .cBnez => some 6  -- Bne
  | .cSlli => some 28  -- Slli
  | .cLwsp => some 13  -- Lw
  | .cLdsp => some 14  -- Ld
  | .cJr => some 4  -- Jalr
  | .cMv => some 31  -- Add
  | .cEbreak => some 66  -- Ebreak
  | .cJalr => some 4  -- Jalr
  | .cAdd => some 31  -- Add
  | .cSwsp => some 20  -- Sw
  | .cSdsp => some 21  -- Sd
  | .cIllegal | .cFld | .cFsd | .cFldsp | .cFsdsp | .q0Reserved | .q1Reserved => none

/-- `expand(h)`: total, with the sentinel for every class but `Legal` (R302). -/
def expand (h : Half) : Word32 :=
  match classify16 h with
  | (.legal, some f) => f.expansion h
  | _ => sentinel

end Sys2Proof.Machine
end

