-- ==== Sys2Proof/Machine/Quadrant.lean ====
section
/-! DEFINITION. The compressed quadrant decoder `cdecode` with its closed-form bit placement
(47_compressed_decoder.md R280 to R292). -/

namespace Sys2Proof.Machine

/-- `01 ++ r`: the popular register as it stands in the placed word (R282). -/
def placedReg (r : PopIdx) : RegIdx := 0b01#2 ++ r

/-- `W_LW(h)` (R282). -/
def placeLw (h : Half) : Word32 :=
  0b00000#5 ++ h.extractLsb' 5 1 ++ h.extractLsb' 10 3 ++ h.extractLsb' 6 1 ++ 0b00#2 ++
    placedReg (cRs1p h) ++ 0b010#3 ++ placedReg (cRdp h) ++ 0b0000011#7

/-- `W_LD(h)` (R283). -/
def placeLd (h : Half) : Word32 :=
  0b0000#4 ++ h.extractLsb' 5 2 ++ h.extractLsb' 10 3 ++ 0b000#3 ++
    placedReg (cRs1p h) ++ 0b011#3 ++ placedReg (cRdp h) ++ 0b0000011#7

/-- `W_SW(h)` (R284). -/
def placeSw (h : Half) : Word32 :=
  0b00000#5 ++ h.extractLsb' 5 1 ++ h.extractLsb' 12 1 ++ placedReg (cRdp h) ++ placedReg (cRs1p h) ++
    0b010#3 ++ h.extractLsb' 10 2 ++ h.extractLsb' 6 1 ++ 0b00#2 ++ 0b0100011#7

/-- `W_SD(h)` (R285). -/
def placeSd (h : Half) : Word32 :=
  0b0000#4 ++ h.extractLsb' 5 2 ++ h.extractLsb' 12 1 ++ placedReg (cRdp h) ++ placedReg (cRs1p h) ++
    0b011#3 ++ h.extractLsb' 10 2 ++ 0b000#3 ++ 0b0100011#7

/-- `cdecode(h)` (R281): the four implemented forms, the all-zero halfword (R287), and `Unimplemented` (R286). -/
def cdecode (h : Half) : DecodeOutcome :=
  if h == 0x0000#16 then .ok (.illegal ⟨0x00000000#32⟩)
  else if quadrant h != 0b00#2 then .error .unimplemented
  else
    match cfunct3 h with
    | 0b010#3 => .ok (.lw ⟨placeLw h⟩)
    | 0b011#3 => .ok (.ld ⟨placeLd h⟩)
    | 0b110#3 => .ok (.sw ⟨placeSw h⟩)
    | 0b111#3 => .ok (.sd ⟨placeSd h⟩)
    | _ => .error .unimplemented

end Sys2Proof.Machine
end

