-- ==== Sys2Proof/Machine/Frontend.lean ====
section
/-! DEFINITION. The top-level decode with both compressed paths (40_dispatch.md R121) and the signal-level ports (R129). -/

namespace Sys2Proof.Machine

/-- The expand-then-redecode path of R121 for a 16-bit word. The last three classes do not reach the match: a `Legal` word
has an expansion, 0x0000 is decided first, and quadrant 3 never enters. -/
def decodeExpand (h : Half) : DecodeOutcome :=
  if h == 0x0000#16 then .ok (.illegal ⟨0x00000000#32⟩)
  else if expand h != sentinel then decode32 (expand h)
  else
    match (classify16 h).1 with
    | .reserved => .error .illegal
    | .hint => .error .unimplemented
    | .unsupported => .error .unimplemented
    | .legal => .error .illegal
    | .illegalZero => .error .illegal
    | .notCompressed => .error .illegal

/-- The low half of a fetch, its compressed word (20_memory.md R42). -/
def lowHalf (fetch : Word32) : Half := fetch.extractLsb' 0 16

/-- The length test of 20_memory.md R42: whether a fetch holds a standard word. -/
def isStandard (fetch : Word32) : Bool := fetch.extractLsb' 0 2 == 0b11#2

/-- `decode(fetch, COMPRESSED_PATH)`: the outcome and the length in bytes (R121). -/
def decode (fetch : Word32) (path : CompressedPath) : DecodeOutcome × Nat :=
  if isStandard fetch then (decode32 fetch, 4)
  else
    match path with
    | .quadrant => (cdecode (lowHalf fetch), 2)
    | .expand => (decodeExpand (lowHalf fetch), 2)

/-- The fetch of a word stored as bytes, b0 at the lowest address (20_memory.md R41). -/
def assemble (b0 b1 b2 b3 : Byte) : Word32 := b3 ++ b2 ++ b1 ++ b0

/-- The output ports of R129, with the expander's separate port. -/
structure Ports where
  len    : BitVec 3
  ok     : BitVec 1
  err    : BitVec 1
  tag    : BitVec 7
  word   : Word32
  rd     : RegIdx
  rs1    : RegIdx
  rs2    : RegIdx
  imm    : Word
  shamt  : BitVec 6
  pred   : BitVec 4
  succ   : BitVec 4
  fm     : BitVec 4
  csr    : CsrIdx
  zimm   : BitVec 5
  expOut : Word32
  cls16  : BitVec 3
  deriving DecidableEq, Repr

/-- The accessors of an instruction's carrier, 0 for one the carrier lacks (R129; 30_encoding.md R80). -/
structure Fields where
  rd    : RegIdx := 0
  rs1   : RegIdx := 0
  rs2   : RegIdx := 0
  imm   : Word := 0
  shamt : BitVec 6 := 0
  pred  : BitVec 4 := 0
  succ  : BitVec 4 := 0
  fm    : BitVec 4 := 0
  csr   : CsrIdx := 0
  zimm  : BitVec 5 := 0
  deriving DecidableEq, Repr

def CarrierR.fields (c : CarrierR) : Fields := { rd := c.rd, rs1 := c.rs1, rs2 := c.rs2 }
def CarrierI.fields (c : CarrierI) : Fields := { rd := c.rd, rs1 := c.rs1, imm := c.imm }
def CarrierS.fields (c : CarrierS) : Fields := { rs1 := c.rs1, rs2 := c.rs2, imm := c.imm }
def CarrierB.fields (c : CarrierB) : Fields := { rs1 := c.rs1, rs2 := c.rs2, imm := c.imm }
def CarrierU.fields (c : CarrierU) : Fields := { rd := c.rd, imm := c.imm }
def CarrierJ.fields (c : CarrierJ) : Fields := { rd := c.rd, imm := c.imm }
def CarrierShift64.fields (c : CarrierShift64) : Fields := { rd := c.rd, rs1 := c.rs1, shamt := c.shamt }
def CarrierShift32.fields (c : CarrierShift32) : Fields := { rd := c.rd, rs1 := c.rs1, shamt := c.shamt.zeroExtend 6 }
def CarrierFence.fields (c : CarrierFence) : Fields :=
  { rd := c.rd, rs1 := c.rs1, pred := c.pred, succ := c.succ, fm := c.fm }
def CarrierCsr.fields (c : CarrierCsr) : Fields := { rd := c.rd, rs1 := c.rs1, csr := c.csr }
def CarrierCsrImm.fields (c : CarrierCsrImm) : Fields := { rd := c.rd, csr := c.csr, zimm := c.zimm }

/-- The accessors of a decoded instruction. -/
def Instruction.fields : Instruction → Fields
  | .illegal c => c.fields
  | .lui c => c.fields
  | .auipc c => c.fields
  | .jal c => c.fields
  | .jalr c => c.fields
  | .beq c => c.fields
  | .bne c => c.fields
  | .blt c => c.fields
  | .bge c => c.fields
  | .bltu c => c.fields
  | .bgeu c => c.fields
  | .lb c => c.fields
  | .lh c => c.fields
  | .lw c => c.fields
  | .ld c => c.fields
  | .lbu c => c.fields
  | .lhu c => c.fields
  | .lwu c => c.fields
  | .sb c => c.fields
  | .sh c => c.fields
  | .sw c => c.fields
  | .sd c => c.fields
  | .addi c => c.fields
  | .slti c => c.fields
  | .sltiu c => c.fields
  | .xori c => c.fields
  | .ori c => c.fields
  | .andi c => c.fields
  | .slli c => c.fields
  | .srli c => c.fields
  | .srai c => c.fields
  | .add c => c.fields
  | .sub c => c.fields
  | .sll c => c.fields
  | .slt c => c.fields
  | .sltu c => c.fields
  | .xor c => c.fields
  | .srl c => c.fields
  | .sra c => c.fields
  | .or c => c.fields
  | .and c => c.fields
  | .mul c => c.fields
  | .mulh c => c.fields
  | .mulhsu c => c.fields
  | .mulhu c => c.fields
  | .div c => c.fields
  | .divu c => c.fields
  | .rem c => c.fields
  | .remu c => c.fields
  | .addiw c => c.fields
  | .slliw c => c.fields
  | .srliw c => c.fields
  | .sraiw c => c.fields
  | .addw c => c.fields
  | .subw c => c.fields
  | .sllw c => c.fields
  | .srlw c => c.fields
  | .sraw c => c.fields
  | .mulw c => c.fields
  | .divw c => c.fields
  | .divuw c => c.fields
  | .remw c => c.fields
  | .remuw c => c.fields
  | .fence c => c.fields
  | .fenceI c => c.fields
  | .ecall c => c.fields
  | .ebreak c => c.fields
  | .csrrw c => c.fields
  | .csrrs c => c.fields
  | .csrrc c => c.fields
  | .csrrwi c => c.fields
  | .csrrsi c => c.fields
  | .csrrci c => c.fields

/-- The instruction and accessor ports are 0 unless the outcome is `Ok` (R129). -/
def Ports.ofOutcome (out : DecodeOutcome) (len : Nat) (expOut : Word32) (cls16 : BitVec 3) : Ports :=
  match out with
  | .ok v =>
    { len := BitVec.ofNat 3 len, ok := 1, err := 0, tag := v.tag, word := v.word,
      rd := v.fields.rd, rs1 := v.fields.rs1, rs2 := v.fields.rs2, imm := v.fields.imm, shamt := v.fields.shamt,
      pred := v.fields.pred, succ := v.fields.succ, fm := v.fields.fm, csr := v.fields.csr, zimm := v.fields.zimm,
      expOut := expOut, cls16 := cls16 }
  | .error e =>
    { len := BitVec.ofNat 3 len, ok := 0, err := (match e with | .unimplemented => 0 | .illegal => 1), tag := 0, word := 0,
      rd := 0, rs1 := 0, rs2 := 0, imm := 0, shamt := 0, pred := 0, succ := 0, fm := 0, csr := 0, zimm := 0,
      expOut := expOut, cls16 := cls16 }

/-- Every output port as a function of the input ports and the parameter (R129). -/
def ports (fetch : Word32) (path : CompressedPath) (expIn : Half) : Ports :=
  Ports.ofOutcome (decode fetch path).1 (decode fetch path).2 (expand expIn) (classify16 (lowHalf fetch)).1.code

end Sys2Proof.Machine
end

