-- ==== Sys2Proof/Syntax.lean ====
section
/-! DEFINITION. The instruction forms: one constructor per row of spec/opcode_table.json, in the table's order. A standard
form holds the fields of its format (30_encoding.md R63 to R66), a compressed form the fields and the assembled immediate of
its own rule (48_compressed_expander.md R310 to R342). B, J and compressed offsets are held whole, with their implicit zero
bits, so that WellFormed.lean has something to check. -/

namespace Sys2Proof

/-- An instruction form of the opcode table. -/
inductive Instr where
  /-- The all-zero word or parcel, the `Illegal` variant (40_dispatch.md R122). -/
  | illegal
  -- Upper immediates, jumps and branches: 41_upper_jump_branch.md R150 to R161.
  | lui (rd : RegIdx) (imm : BitVec 20)
  | auipc (rd : RegIdx) (imm : BitVec 20)
  | jal (rd : RegIdx) (imm : BitVec 21)
  | jalr (rd rs1 : RegIdx) (imm : BitVec 12)
  | beq (rs1 rs2 : RegIdx) (imm : BitVec 13)
  | bne (rs1 rs2 : RegIdx) (imm : BitVec 13)
  | blt (rs1 rs2 : RegIdx) (imm : BitVec 13)
  | bge (rs1 rs2 : RegIdx) (imm : BitVec 13)
  | bltu (rs1 rs2 : RegIdx) (imm : BitVec 13)
  | bgeu (rs1 rs2 : RegIdx) (imm : BitVec 13)
  -- Loads and stores: 42_load_store.md R170 to R183.
  | lb (rd rs1 : RegIdx) (imm : BitVec 12)
  | lh (rd rs1 : RegIdx) (imm : BitVec 12)
  | lw (rd rs1 : RegIdx) (imm : BitVec 12)
  | ld (rd rs1 : RegIdx) (imm : BitVec 12)
  | lbu (rd rs1 : RegIdx) (imm : BitVec 12)
  | lhu (rd rs1 : RegIdx) (imm : BitVec 12)
  | lwu (rd rs1 : RegIdx) (imm : BitVec 12)
  | sb (rs1 rs2 : RegIdx) (imm : BitVec 12)
  | sh (rs1 rs2 : RegIdx) (imm : BitVec 12)
  | sw (rs1 rs2 : RegIdx) (imm : BitVec 12)
  | sd (rs1 rs2 : RegIdx) (imm : BitVec 12)
  -- Integer register-immediate: 43_int_imm.md R190 to R201.
  | addi (rd rs1 : RegIdx) (imm : BitVec 12)
  | slti (rd rs1 : RegIdx) (imm : BitVec 12)
  | sltiu (rd rs1 : RegIdx) (imm : BitVec 12)
  | xori (rd rs1 : RegIdx) (imm : BitVec 12)
  | ori (rd rs1 : RegIdx) (imm : BitVec 12)
  | andi (rd rs1 : RegIdx) (imm : BitVec 12)
  | slli (rd rs1 : RegIdx) (shamt : BitVec 6)
  | srli (rd rs1 : RegIdx) (shamt : BitVec 6)
  | srai (rd rs1 : RegIdx) (shamt : BitVec 6)
  -- Integer register-register, base and M: 44_int_reg.md R210 to R230.
  | add (rd rs1 rs2 : RegIdx)
  | sub (rd rs1 rs2 : RegIdx)
  | sll (rd rs1 rs2 : RegIdx)
  | slt (rd rs1 rs2 : RegIdx)
  | sltu (rd rs1 rs2 : RegIdx)
  | xor (rd rs1 rs2 : RegIdx)
  | srl (rd rs1 rs2 : RegIdx)
  | sra (rd rs1 rs2 : RegIdx)
  | or (rd rs1 rs2 : RegIdx)
  | and (rd rs1 rs2 : RegIdx)
  | mul (rd rs1 rs2 : RegIdx)
  | mulh (rd rs1 rs2 : RegIdx)
  | mulhsu (rd rs1 rs2 : RegIdx)
  | mulhu (rd rs1 rs2 : RegIdx)
  | div (rd rs1 rs2 : RegIdx)
  | divu (rd rs1 rs2 : RegIdx)
  | rem (rd rs1 rs2 : RegIdx)
  | remu (rd rs1 rs2 : RegIdx)
  -- 32-bit-narrowed forms: 45_word_ops.md R240 to R255.
  | addiw (rd rs1 : RegIdx) (imm : BitVec 12)
  | slliw (rd rs1 : RegIdx) (shamt : BitVec 5)
  | srliw (rd rs1 : RegIdx) (shamt : BitVec 5)
  | sraiw (rd rs1 : RegIdx) (shamt : BitVec 5)
  | addw (rd rs1 rs2 : RegIdx)
  | subw (rd rs1 rs2 : RegIdx)
  | sllw (rd rs1 rs2 : RegIdx)
  | srlw (rd rs1 rs2 : RegIdx)
  | sraw (rd rs1 rs2 : RegIdx)
  | mulw (rd rs1 rs2 : RegIdx)
  | divw (rd rs1 rs2 : RegIdx)
  | divuw (rd rs1 rs2 : RegIdx)
  | remw (rd rs1 rs2 : RegIdx)
  | remuw (rd rs1 rs2 : RegIdx)
  -- Fences, environment call, breakpoint and CSR forms: 46_fence_system_csr.md R260 to R273.
  | fence (rd rs1 : RegIdx) (fm pred succ : BitVec 4)
  | fenceI (rd rs1 : RegIdx) (imm : BitVec 12)
  | ecall
  | ebreak
  | csrrw (rd rs1 : RegIdx) (csr : CsrIdx)
  | csrrs (rd rs1 : RegIdx) (csr : CsrIdx)
  | csrrc (rd rs1 : RegIdx) (csr : CsrIdx)
  | csrrwi (rd : RegIdx) (zimm : BitVec 5) (csr : CsrIdx)
  | csrrsi (rd : RegIdx) (zimm : BitVec 5) (csr : CsrIdx)
  | csrrci (rd : RegIdx) (zimm : BitVec 5) (csr : CsrIdx)
  -- Compressed quadrant 0: 48_compressed_expander.md R310 to R314.
  | cAddi4spn (rdp : PopIdx) (nzuimm : BitVec 10)
  | cLw (rdp rs1p : PopIdx) (uimm : BitVec 7)
  | cLd (rdp rs1p : PopIdx) (uimm : BitVec 8)
  | cSw (rs1p rs2p : PopIdx) (uimm : BitVec 7)
  | cSd (rs1p rs2p : PopIdx) (uimm : BitVec 8)
  -- Compressed quadrant 1: 48_compressed_expander.md R315 to R332.
  | cNop
  | cAddi (rd : RegIdx) (imm : BitVec 6)
  | cAddiw (rd : RegIdx) (imm : BitVec 6)
  | cLi (rd : RegIdx) (imm : BitVec 6)
  | cAddi16sp (nzimm : BitVec 10)
  | cLui (rd : RegIdx) (imm : BitVec 6)
  | cSrli (rdp : PopIdx) (shamt : BitVec 6)
  | cSrai (rdp : PopIdx) (shamt : BitVec 6)
  | cAndi (rdp : PopIdx) (imm : BitVec 6)
  | cSub (rdp rs2p : PopIdx)
  | cXor (rdp rs2p : PopIdx)
  | cOr (rdp rs2p : PopIdx)
  | cAnd (rdp rs2p : PopIdx)
  | cSubw (rdp rs2p : PopIdx)
  | cAddw (rdp rs2p : PopIdx)
  | cJ (off : BitVec 12)
  | cBeqz (rs1p : PopIdx) (off : BitVec 9)
  | cBnez (rs1p : PopIdx) (off : BitVec 9)
  -- Compressed quadrant 2: 48_compressed_expander.md R333 to R342.
  | cSlli (rd : RegIdx) (shamt : BitVec 6)
  | cLwsp (rd : RegIdx) (uimm : BitVec 8)
  | cLdsp (rd : RegIdx) (uimm : BitVec 9)
  | cJr (rs1 : RegIdx)
  | cMv (rd rs2 : RegIdx)
  | cEbreak
  | cJalr (rs1 : RegIdx)
  | cAdd (rd rs2 : RegIdx)
  | cSwsp (rs2 : RegIdx) (uimm : BitVec 8)
  | cSdsp (rs2 : RegIdx) (uimm : BitVec 9)
  -- Compressed floating-point forms, never decoded (48_compressed_expander.md R307): registers and the bits left over.
  | cFld (rdp rs1p : PopIdx) (hi : BitVec 3) (lo : BitVec 2)
  | cFsd (rs1p rs2p : PopIdx) (hi : BitVec 3) (lo : BitVec 2)
  | cFldsp (rd : RegIdx) (hi : BitVec 1) (lo : BitVec 5)
  | cFsdsp (rs2 : RegIdx) (hi : BitVec 6)
  deriving DecidableEq, Repr

end Sys2Proof
end

