-- ==== Sys2Proof/WellFormed.lean ====
section
/-! DEFINITION. Which instruction terms an encoding can spell: the implicit zero bits of an offset, and the conditions for
class `Legal` of a compressed form (49_validator.md R351). -/

namespace Sys2Proof

/-- The low `k` bits of an offset are its implicit zeros (30_encoding.md R73, R75; 48_compressed_expander.md R310 to R342). -/
def lowZero {n : Nat} (k : Nat) (v : BitVec n) : Bool := v.extractLsb' 0 k == 0

/-- A well-formed instruction: one that some encoding spells. -/
def Instr.wf : Instr → Bool
  | .illegal => true
  | .lui _ _ => true
  | .auipc _ _ => true
  | .jal _ imm => lowZero 1 imm
  | .jalr _ _ _ => true
  | .beq _ _ imm => lowZero 1 imm
  | .bne _ _ imm => lowZero 1 imm
  | .blt _ _ imm => lowZero 1 imm
  | .bge _ _ imm => lowZero 1 imm
  | .bltu _ _ imm => lowZero 1 imm
  | .bgeu _ _ imm => lowZero 1 imm
  | .lb _ _ _ => true
  | .lh _ _ _ => true
  | .lw _ _ _ => true
  | .ld _ _ _ => true
  | .lbu _ _ _ => true
  | .lhu _ _ _ => true
  | .lwu _ _ _ => true
  | .sb _ _ _ => true
  | .sh _ _ _ => true
  | .sw _ _ _ => true
  | .sd _ _ _ => true
  | .addi _ _ _ => true
  | .slti _ _ _ => true
  | .sltiu _ _ _ => true
  | .xori _ _ _ => true
  | .ori _ _ _ => true
  | .andi _ _ _ => true
  | .slli _ _ _ => true
  | .srli _ _ _ => true
  | .srai _ _ _ => true
  | .add _ _ _ => true
  | .sub _ _ _ => true
  | .sll _ _ _ => true
  | .slt _ _ _ => true
  | .sltu _ _ _ => true
  | .xor _ _ _ => true
  | .srl _ _ _ => true
  | .sra _ _ _ => true
  | .or _ _ _ => true
  | .and _ _ _ => true
  | .mul _ _ _ => true
  | .mulh _ _ _ => true
  | .mulhsu _ _ _ => true
  | .mulhu _ _ _ => true
  | .div _ _ _ => true
  | .divu _ _ _ => true
  | .rem _ _ _ => true
  | .remu _ _ _ => true
  | .addiw _ _ _ => true
  | .slliw _ _ _ => true
  | .srliw _ _ _ => true
  | .sraiw _ _ _ => true
  | .addw _ _ _ => true
  | .subw _ _ _ => true
  | .sllw _ _ _ => true
  | .srlw _ _ _ => true
  | .sraw _ _ _ => true
  | .mulw _ _ _ => true
  | .divw _ _ _ => true
  | .divuw _ _ _ => true
  | .remw _ _ _ => true
  | .remuw _ _ _ => true
  | .fence _ _ _ _ _ => true
  | .fenceI _ _ _ => true
  | .ecall => true
  | .ebreak => true
  | .csrrw _ _ _ => true
  | .csrrs _ _ _ => true
  | .csrrc _ _ _ => true
  | .csrrwi _ _ _ => true
  | .csrrsi _ _ _ => true
  | .csrrci _ _ _ => true
  | .cAddi4spn _ nzuimm => nzuimm != 0 && lowZero 2 nzuimm
  | .cLw _ _ uimm => lowZero 2 uimm
  | .cLd _ _ uimm => lowZero 3 uimm
  | .cSw _ _ uimm => lowZero 2 uimm
  | .cSd _ _ uimm => lowZero 3 uimm
  | .cNop => true
  | .cAddi rd imm => rd != 0 && imm != 0
  | .cAddiw rd _ => rd != 0
  | .cLi rd _ => rd != 0
  | .cAddi16sp nzimm => nzimm != 0 && lowZero 4 nzimm
  | .cLui rd imm => rd != 0 && rd != 2 && imm != 0
  | .cSrli _ shamt => shamt != 0
  | .cSrai _ shamt => shamt != 0
  | .cAndi _ _ => true
  | .cSub _ _ => true
  | .cXor _ _ => true
  | .cOr _ _ => true
  | .cAnd _ _ => true
  | .cSubw _ _ => true
  | .cAddw _ _ => true
  | .cJ off => lowZero 1 off
  | .cBeqz _ off => lowZero 1 off
  | .cBnez _ off => lowZero 1 off
  | .cSlli rd shamt => rd != 0 && shamt != 0
  | .cLwsp rd uimm => rd != 0 && lowZero 2 uimm
  | .cLdsp rd uimm => rd != 0 && lowZero 3 uimm
  | .cJr rs1 => rs1 != 0
  | .cMv rd rs2 => rd != 0 && rs2 != 0
  | .cEbreak => true
  | .cJalr rs1 => rs1 != 0
  | .cAdd rd rs2 => rd != 0 && rs2 != 0
  | .cSwsp _ uimm => lowZero 2 uimm
  | .cSdsp _ uimm => lowZero 3 uimm
  | .cFld _ _ _ _ => true
  | .cFsd _ _ _ _ => true
  | .cFldsp _ _ _ => true
  | .cFsdsp _ _ => true

end Sys2Proof
end

