-- ==== Sys2Proof/Decode.lean ====
section
/-! DEFINITION. From bits to instruction forms and back. `decodeInstr` reads the form a fetch spells through the block's own
functions: a standard word through `decode32` (40_dispatch.md R123), a compressed word through the legality table
(49_validator.md R351). It rejects by the block's error kinds. `encode` is written from the encodings of 30_encoding.md R63 to
R66 and of each compressed form's rule. -/

namespace Sys2Proof

open Sys2Proof.Machine

/-! ## Decoding -/

/-- The form of a decoded variant, its fields read from the carrier word (30_encoding.md R80). -/
def formOf : Instruction → Instr
  | .illegal _ => .illegal
  | .lui c => .lui c.rd (immU20 c.word)
  | .auipc c => .auipc c.rd (immU20 c.word)
  | .jal c => .jal c.rd (immJ21 c.word)
  | .jalr c => .jalr c.rd c.rs1 (immI12 c.word)
  | .beq c => .beq c.rs1 c.rs2 (immB13 c.word)
  | .bne c => .bne c.rs1 c.rs2 (immB13 c.word)
  | .blt c => .blt c.rs1 c.rs2 (immB13 c.word)
  | .bge c => .bge c.rs1 c.rs2 (immB13 c.word)
  | .bltu c => .bltu c.rs1 c.rs2 (immB13 c.word)
  | .bgeu c => .bgeu c.rs1 c.rs2 (immB13 c.word)
  | .lb c => .lb c.rd c.rs1 (immI12 c.word)
  | .lh c => .lh c.rd c.rs1 (immI12 c.word)
  | .lw c => .lw c.rd c.rs1 (immI12 c.word)
  | .ld c => .ld c.rd c.rs1 (immI12 c.word)
  | .lbu c => .lbu c.rd c.rs1 (immI12 c.word)
  | .lhu c => .lhu c.rd c.rs1 (immI12 c.word)
  | .lwu c => .lwu c.rd c.rs1 (immI12 c.word)
  | .sb c => .sb c.rs1 c.rs2 (immS12 c.word)
  | .sh c => .sh c.rs1 c.rs2 (immS12 c.word)
  | .sw c => .sw c.rs1 c.rs2 (immS12 c.word)
  | .sd c => .sd c.rs1 c.rs2 (immS12 c.word)
  | .addi c => .addi c.rd c.rs1 (immI12 c.word)
  | .slti c => .slti c.rd c.rs1 (immI12 c.word)
  | .sltiu c => .sltiu c.rd c.rs1 (immI12 c.word)
  | .xori c => .xori c.rd c.rs1 (immI12 c.word)
  | .ori c => .ori c.rd c.rs1 (immI12 c.word)
  | .andi c => .andi c.rd c.rs1 (immI12 c.word)
  | .slli c => .slli c.rd c.rs1 c.shamt
  | .srli c => .srli c.rd c.rs1 c.shamt
  | .srai c => .srai c.rd c.rs1 c.shamt
  | .add c => .add c.rd c.rs1 c.rs2
  | .sub c => .sub c.rd c.rs1 c.rs2
  | .sll c => .sll c.rd c.rs1 c.rs2
  | .slt c => .slt c.rd c.rs1 c.rs2
  | .sltu c => .sltu c.rd c.rs1 c.rs2
  | .xor c => .xor c.rd c.rs1 c.rs2
  | .srl c => .srl c.rd c.rs1 c.rs2
  | .sra c => .sra c.rd c.rs1 c.rs2
  | .or c => .or c.rd c.rs1 c.rs2
  | .and c => .and c.rd c.rs1 c.rs2
  | .mul c => .mul c.rd c.rs1 c.rs2
  | .mulh c => .mulh c.rd c.rs1 c.rs2
  | .mulhsu c => .mulhsu c.rd c.rs1 c.rs2
  | .mulhu c => .mulhu c.rd c.rs1 c.rs2
  | .div c => .div c.rd c.rs1 c.rs2
  | .divu c => .divu c.rd c.rs1 c.rs2
  | .rem c => .rem c.rd c.rs1 c.rs2
  | .remu c => .remu c.rd c.rs1 c.rs2
  | .addiw c => .addiw c.rd c.rs1 (immI12 c.word)
  | .slliw c => .slliw c.rd c.rs1 c.shamt
  | .srliw c => .srliw c.rd c.rs1 c.shamt
  | .sraiw c => .sraiw c.rd c.rs1 c.shamt
  | .addw c => .addw c.rd c.rs1 c.rs2
  | .subw c => .subw c.rd c.rs1 c.rs2
  | .sllw c => .sllw c.rd c.rs1 c.rs2
  | .srlw c => .srlw c.rd c.rs1 c.rs2
  | .sraw c => .sraw c.rd c.rs1 c.rs2
  | .mulw c => .mulw c.rd c.rs1 c.rs2
  | .divw c => .divw c.rd c.rs1 c.rs2
  | .divuw c => .divuw c.rd c.rs1 c.rs2
  | .remw c => .remw c.rd c.rs1 c.rs2
  | .remuw c => .remuw c.rd c.rs1 c.rs2
  | .fence c => .fence c.rd c.rs1 c.fm c.pred c.succ
  | .fenceI c => .fenceI c.rd c.rs1 (immI12 c.word)
  | .ecall _ => .ecall
  | .ebreak _ => .ebreak
  | .csrrw c => .csrrw c.rd c.rs1 c.csr
  | .csrrs c => .csrrs c.rd c.rs1 c.csr
  | .csrrc c => .csrrc c.rd c.rs1 c.csr
  | .csrrwi c => .csrrwi c.rd c.zimm c.csr
  | .csrrsi c => .csrrsi c.rd c.zimm c.csr
  | .csrrci c => .csrrci c.rd c.zimm c.csr

/-- The form a compressed word spells, its fields as its rule places them; the two reserved cells have none. -/
def compressedForm (f : Form) (h : Half) : Option Instr :=
  match f with
  | .cIllegal => some .illegal
  | .cAddi4spn => some (.cAddi4spn (cRdp h) (cImmAddi4spn h))
  | .cLw => some (.cLw (cRdp h) (cRs1p h) (cImmLw h))
  | .cLd => some (.cLd (cRdp h) (cRs1p h) (cImmLd h))
  | .cSw => some (.cSw (cRs1p h) (cRdp h) (cImmLw h))
  | .cSd => some (.cSd (cRs1p h) (cRdp h) (cImmLd h))
  | .cNop => some .cNop
  | .cAddi => some (.cAddi (cRd h) (uimm6 h))
  | .cAddiw => some (.cAddiw (cRd h) (uimm6 h))
  | .cLi => some (.cLi (cRd h) (uimm6 h))
  | .cAddi16sp => some (.cAddi16sp (cImmAddi16sp h))
  | .cLui => some (.cLui (cRd h) (uimm6 h))
  | .cSrli => some (.cSrli (cRs1p h) (uimm6 h))
  | .cSrai => some (.cSrai (cRs1p h) (uimm6 h))
  | .cAndi => some (.cAndi (cRs1p h) (uimm6 h))
  | .cSub => some (.cSub (cRs1p h) (cRdp h))
  | .cXor => some (.cXor (cRs1p h) (cRdp h))
  | .cOr => some (.cOr (cRs1p h) (cRdp h))
  | .cAnd => some (.cAnd (cRs1p h) (cRdp h))
  | .cSubw => some (.cSubw (cRs1p h) (cRdp h))
  | .cAddw => some (.cAddw (cRs1p h) (cRdp h))
  | .cJ => some (.cJ (cImmJ h))
  | .cBeqz => some (.cBeqz (cRs1p h) (cImmB h))
  | .cBnez => some (.cBnez (cRs1p h) (cImmB h))
  | .cSlli => some (.cSlli (cRd h) (uimm6 h))
  | .cLwsp => some (.cLwsp (cRd h) (cImmLwsp h))
  | .cLdsp => some (.cLdsp (cRd h) (cImmLdsp h))
  | .cJr => some (.cJr (cRd h))
  | .cMv => some (.cMv (cRd h) (cRs2 h))
  | .cEbreak => some .cEbreak
  | .cJalr => some (.cJalr (cRd h))
  | .cAdd => some (.cAdd (cRd h) (cRs2 h))
  | .cSwsp => some (.cSwsp (cRs2 h) (cImmSwsp h))
  | .cSdsp => some (.cSdsp (cRs2 h) (cImmSdsp h))
  | .cFld => some (.cFld (cRdp h) (cRs1p h) (h.extractLsb' 10 3) (h.extractLsb' 5 2))
  | .cFsd => some (.cFsd (cRs1p h) (cRdp h) (h.extractLsb' 10 3) (h.extractLsb' 5 2))
  | .cFldsp => some (.cFldsp (cRd h) (h.extractLsb' 12 1) (h.extractLsb' 2 5))
  | .cFsdsp => some (.cFsdsp (cRs2 h) (h.extractLsb' 7 6))
  | .q0Reserved => none
  | .q1Reserved => none

/-- A compressed word: every form the table classes `Legal`, the all-zero word, and the floating-point forms, which are
forms of the opcode table although the block never decodes them (48_compressed_expander.md R307). Reserved and HINT code
points are rejected with the error kinds of 49_validator.md R356. -/
def decodeHalf (h : Half) : Except DecodingError Instr :=
  match classify16 h with
  | (.reserved, _) => .error .illegal
  | (.hint, _) => .error .unimplemented
  | (.notCompressed, _) => .error .unimplemented
  | (_, none) => .error .illegal
  | (_, some f) =>
    match compressedForm f h with
    | some i => .ok i
    | none => .error .illegal

/-- The form the 32 bits at an instruction address spell; total, and rejecting by name. -/
def decodeInstr (fetch : Word32) : Except DecodingError Instr :=
  if isStandard fetch then
    match decode32 fetch with
    | .ok v => .ok (formOf v)
    | .error e => .error e
  else decodeHalf (lowHalf fetch)

/-- Why a list of bytes spells no instruction: too few bytes, or the block's own error. -/
inductive ByteReject where
  | truncated
  | undecodable (e : DecodingError)
  deriving DecidableEq, Repr

/-- Two bytes for a compressed word, four for a standard one (20_memory.md R41, R42), with the bytes left over. -/
def decodeBytes : List Byte → Except ByteReject (Instr × List Byte)
  | b0 :: b1 :: rest =>
    if b0.extractLsb' 0 2 == 0b11#2 then
      match rest with
      | b2 :: b3 :: rest' =>
        match decodeInstr (assemble b0 b1 b2 b3) with
        | .ok i => .ok (i, rest')
        | .error e => .error (.undecodable e)
      | _ => .error .truncated
    else
      match decodeInstr (assemble b0 b1 0 0) with
      | .ok i => .ok (i, rest)
      | .error e => .error (.undecodable e)
  | _ => .error .truncated

/-- The `k`-th byte of a word, little-endian (20_memory.md R41). -/
def wordByte (w : Word32) (k : Nat) : Byte := w.extractLsb' (8 * k) 8

/-- The four bytes of a word, lowest address first. -/
def wordBytes (w : Word32) : List Byte := [wordByte w 0, wordByte w 1, wordByte w 2, wordByte w 3]

/-- The word of `nbits` bits that the host numbers as the opcode table does; every bit above is 0. -/
def tableWord (nbits w : Nat) : Word32 := BitVec.ofNat 32 (w % 2 ^ nbits)

/-- What the decoder reads from an opcode-table word laid out in memory. -/
def decodeTableWord (nbits w : Nat) : Option Instr :=
  match decodeBytes (wordBytes (tableWord nbits w)) with
  | .ok (i, _) => some i
  | .error .truncated => none
  | .error (.undecodable .unimplemented) => none
  | .error (.undecodable .illegal) => none

/-! ## Encoding -/

/-- The length of a form in bytes (40_dispatch.md R121; 48_compressed_expander.md R308). The all-zero word is decided by its
low parcel, so its length is 2 (R121). -/
def Instr.len : Instr → Nat
  | .illegal => 2
  | .lui _ _ => 4
  | .auipc _ _ => 4
  | .jal _ _ => 4
  | .jalr _ _ _ => 4
  | .beq _ _ _ => 4
  | .bne _ _ _ => 4
  | .blt _ _ _ => 4
  | .bge _ _ _ => 4
  | .bltu _ _ _ => 4
  | .bgeu _ _ _ => 4
  | .lb _ _ _ => 4
  | .lh _ _ _ => 4
  | .lw _ _ _ => 4
  | .ld _ _ _ => 4
  | .lbu _ _ _ => 4
  | .lhu _ _ _ => 4
  | .lwu _ _ _ => 4
  | .sb _ _ _ => 4
  | .sh _ _ _ => 4
  | .sw _ _ _ => 4
  | .sd _ _ _ => 4
  | .addi _ _ _ => 4
  | .slti _ _ _ => 4
  | .sltiu _ _ _ => 4
  | .xori _ _ _ => 4
  | .ori _ _ _ => 4
  | .andi _ _ _ => 4
  | .slli _ _ _ => 4
  | .srli _ _ _ => 4
  | .srai _ _ _ => 4
  | .add _ _ _ => 4
  | .sub _ _ _ => 4
  | .sll _ _ _ => 4
  | .slt _ _ _ => 4
  | .sltu _ _ _ => 4
  | .xor _ _ _ => 4
  | .srl _ _ _ => 4
  | .sra _ _ _ => 4
  | .or _ _ _ => 4
  | .and _ _ _ => 4
  | .mul _ _ _ => 4
  | .mulh _ _ _ => 4
  | .mulhsu _ _ _ => 4
  | .mulhu _ _ _ => 4
  | .div _ _ _ => 4
  | .divu _ _ _ => 4
  | .rem _ _ _ => 4
  | .remu _ _ _ => 4
  | .addiw _ _ _ => 4
  | .slliw _ _ _ => 4
  | .srliw _ _ _ => 4
  | .sraiw _ _ _ => 4
  | .addw _ _ _ => 4
  | .subw _ _ _ => 4
  | .sllw _ _ _ => 4
  | .srlw _ _ _ => 4
  | .sraw _ _ _ => 4
  | .mulw _ _ _ => 4
  | .divw _ _ _ => 4
  | .divuw _ _ _ => 4
  | .remw _ _ _ => 4
  | .remuw _ _ _ => 4
  | .fence _ _ _ _ _ => 4
  | .fenceI _ _ _ => 4
  | .ecall => 4
  | .ebreak => 4
  | .csrrw _ _ _ => 4
  | .csrrs _ _ _ => 4
  | .csrrc _ _ _ => 4
  | .csrrwi _ _ _ => 4
  | .csrrsi _ _ _ => 4
  | .csrrci _ _ _ => 4
  | .cAddi4spn _ _ => 2
  | .cLw _ _ _ => 2
  | .cLd _ _ _ => 2
  | .cSw _ _ _ => 2
  | .cSd _ _ _ => 2
  | .cNop => 2
  | .cAddi _ _ => 2
  | .cAddiw _ _ => 2
  | .cLi _ _ => 2
  | .cAddi16sp _ => 2
  | .cLui _ _ => 2
  | .cSrli _ _ => 2
  | .cSrai _ _ => 2
  | .cAndi _ _ => 2
  | .cSub _ _ => 2
  | .cXor _ _ => 2
  | .cOr _ _ => 2
  | .cAnd _ _ => 2
  | .cSubw _ _ => 2
  | .cAddw _ _ => 2
  | .cJ _ => 2
  | .cBeqz _ _ => 2
  | .cBnez _ _ => 2
  | .cSlli _ _ => 2
  | .cLwsp _ _ => 2
  | .cLdsp _ _ => 2
  | .cJr _ => 2
  | .cMv _ _ => 2
  | .cEbreak => 2
  | .cJalr _ => 2
  | .cAdd _ _ => 2
  | .cSwsp _ _ => 2
  | .cSdsp _ _ => 2
  | .cFld _ _ _ _ => 2
  | .cFsd _ _ _ _ => 2
  | .cFldsp _ _ _ => 2
  | .cFsdsp _ _ => 2

/-- A compressed word in the low half, the upper half 0. -/
def inLowHalf (h : Half) : Word32 := 0#16 ++ h

/-- The word of a form: 32 bits, or a compressed word in the low half. -/
def encode : Instr → Word32
  | .illegal => 0x00000000
  | .lui rd imm => wordU imm rd 0b0110111
  | .auipc rd imm => wordU imm rd 0b0010111
  | .jal rd imm => wordJ imm rd 0b1101111
  | .jalr rd rs1 imm => wordI imm rs1 0b000 rd 0b1100111
  | .beq rs1 rs2 imm => wordB imm rs2 rs1 0b000 0b1100011
  | .bne rs1 rs2 imm => wordB imm rs2 rs1 0b001 0b1100011
  | .blt rs1 rs2 imm => wordB imm rs2 rs1 0b100 0b1100011
  | .bge rs1 rs2 imm => wordB imm rs2 rs1 0b101 0b1100011
  | .bltu rs1 rs2 imm => wordB imm rs2 rs1 0b110 0b1100011
  | .bgeu rs1 rs2 imm => wordB imm rs2 rs1 0b111 0b1100011
  | .lb rd rs1 imm => wordI imm rs1 0b000 rd 0b0000011
  | .lh rd rs1 imm => wordI imm rs1 0b001 rd 0b0000011
  | .lw rd rs1 imm => wordI imm rs1 0b010 rd 0b0000011
  | .ld rd rs1 imm => wordI imm rs1 0b011 rd 0b0000011
  | .lbu rd rs1 imm => wordI imm rs1 0b100 rd 0b0000011
  | .lhu rd rs1 imm => wordI imm rs1 0b101 rd 0b0000011
  | .lwu rd rs1 imm => wordI imm rs1 0b110 rd 0b0000011
  | .sb rs1 rs2 imm => wordS imm rs2 rs1 0b000 0b0100011
  | .sh rs1 rs2 imm => wordS imm rs2 rs1 0b001 0b0100011
  | .sw rs1 rs2 imm => wordS imm rs2 rs1 0b010 0b0100011
  | .sd rs1 rs2 imm => wordS imm rs2 rs1 0b011 0b0100011
  | .addi rd rs1 imm => wordI imm rs1 0b000 rd 0b0010011
  | .slti rd rs1 imm => wordI imm rs1 0b010 rd 0b0010011
  | .sltiu rd rs1 imm => wordI imm rs1 0b011 rd 0b0010011
  | .xori rd rs1 imm => wordI imm rs1 0b100 rd 0b0010011
  | .ori rd rs1 imm => wordI imm rs1 0b110 rd 0b0010011
  | .andi rd rs1 imm => wordI imm rs1 0b111 rd 0b0010011
  | .slli rd rs1 shamt => wordShift64 0b000000 shamt rs1 0b001 rd
  | .srli rd rs1 shamt => wordShift64 0b000000 shamt rs1 0b101 rd
  | .srai rd rs1 shamt => wordShift64 0b010000 shamt rs1 0b101 rd
  | .add rd rs1 rs2 => wordR 0b0000000 rs2 rs1 0b000 rd 0b0110011
  | .sub rd rs1 rs2 => wordR 0b0100000 rs2 rs1 0b000 rd 0b0110011
  | .sll rd rs1 rs2 => wordR 0b0000000 rs2 rs1 0b001 rd 0b0110011
  | .slt rd rs1 rs2 => wordR 0b0000000 rs2 rs1 0b010 rd 0b0110011
  | .sltu rd rs1 rs2 => wordR 0b0000000 rs2 rs1 0b011 rd 0b0110011
  | .xor rd rs1 rs2 => wordR 0b0000000 rs2 rs1 0b100 rd 0b0110011
  | .srl rd rs1 rs2 => wordR 0b0000000 rs2 rs1 0b101 rd 0b0110011
  | .sra rd rs1 rs2 => wordR 0b0100000 rs2 rs1 0b101 rd 0b0110011
  | .or rd rs1 rs2 => wordR 0b0000000 rs2 rs1 0b110 rd 0b0110011
  | .and rd rs1 rs2 => wordR 0b0000000 rs2 rs1 0b111 rd 0b0110011
  | .mul rd rs1 rs2 => wordR 0b0000001 rs2 rs1 0b000 rd 0b0110011
  | .mulh rd rs1 rs2 => wordR 0b0000001 rs2 rs1 0b001 rd 0b0110011
  | .mulhsu rd rs1 rs2 => wordR 0b0000001 rs2 rs1 0b010 rd 0b0110011
  | .mulhu rd rs1 rs2 => wordR 0b0000001 rs2 rs1 0b011 rd 0b0110011
  | .div rd rs1 rs2 => wordR 0b0000001 rs2 rs1 0b100 rd 0b0110011
  | .divu rd rs1 rs2 => wordR 0b0000001 rs2 rs1 0b101 rd 0b0110011
  | .rem rd rs1 rs2 => wordR 0b0000001 rs2 rs1 0b110 rd 0b0110011
  | .remu rd rs1 rs2 => wordR 0b0000001 rs2 rs1 0b111 rd 0b0110011
  | .addiw rd rs1 imm => wordI imm rs1 0b000 rd 0b0011011
  | .slliw rd rs1 shamt => wordShift32 0b0000000 shamt rs1 0b001 rd
  | .srliw rd rs1 shamt => wordShift32 0b0000000 shamt rs1 0b101 rd
  | .sraiw rd rs1 shamt => wordShift32 0b0100000 shamt rs1 0b101 rd
  | .addw rd rs1 rs2 => wordR 0b0000000 rs2 rs1 0b000 rd 0b0111011
  | .subw rd rs1 rs2 => wordR 0b0100000 rs2 rs1 0b000 rd 0b0111011
  | .sllw rd rs1 rs2 => wordR 0b0000000 rs2 rs1 0b001 rd 0b0111011
  | .srlw rd rs1 rs2 => wordR 0b0000000 rs2 rs1 0b101 rd 0b0111011
  | .sraw rd rs1 rs2 => wordR 0b0100000 rs2 rs1 0b101 rd 0b0111011
  | .mulw rd rs1 rs2 => wordR 0b0000001 rs2 rs1 0b000 rd 0b0111011
  | .divw rd rs1 rs2 => wordR 0b0000001 rs2 rs1 0b100 rd 0b0111011
  | .divuw rd rs1 rs2 => wordR 0b0000001 rs2 rs1 0b101 rd 0b0111011
  | .remw rd rs1 rs2 => wordR 0b0000001 rs2 rs1 0b110 rd 0b0111011
  | .remuw rd rs1 rs2 => wordR 0b0000001 rs2 rs1 0b111 rd 0b0111011
  | .fence rd rs1 fm pred succ => wordFence fm pred succ rs1 rd
  | .fenceI rd rs1 imm => wordI imm rs1 0b001 rd 0b0001111
  | .ecall => 0x00000073
  | .ebreak => 0x00100073
  | .csrrw rd rs1 csr => wordI csr rs1 0b001 rd 0b1110011
  | .csrrs rd rs1 csr => wordI csr rs1 0b010 rd 0b1110011
  | .csrrc rd rs1 csr => wordI csr rs1 0b011 rd 0b1110011
  | .csrrwi rd zimm csr => wordI csr zimm 0b101 rd 0b1110011
  | .csrrsi rd zimm csr => wordI csr zimm 0b110 rd 0b1110011
  | .csrrci rd zimm csr => wordI csr zimm 0b111 rd 0b1110011
  | .cAddi4spn rdp nzuimm => inLowHalf (0b000#3 ++ nzuimm.extractLsb' 4 2 ++ nzuimm.extractLsb' 6 4 ++ nzuimm.extractLsb' 2 1 ++ nzuimm.extractLsb' 3 1 ++ rdp ++ 0b00#2)
  | .cLw rdp rs1p uimm => inLowHalf (0b010#3 ++ uimm.extractLsb' 3 3 ++ rs1p ++ uimm.extractLsb' 2 1 ++ uimm.extractLsb' 6 1 ++ rdp ++ 0b00#2)
  | .cLd rdp rs1p uimm => inLowHalf (0b011#3 ++ uimm.extractLsb' 3 3 ++ rs1p ++ uimm.extractLsb' 6 2 ++ rdp ++ 0b00#2)
  | .cSw rs1p rs2p uimm => inLowHalf (0b110#3 ++ uimm.extractLsb' 3 3 ++ rs1p ++ uimm.extractLsb' 2 1 ++ uimm.extractLsb' 6 1 ++ rs2p ++ 0b00#2)
  | .cSd rs1p rs2p uimm => inLowHalf (0b111#3 ++ uimm.extractLsb' 3 3 ++ rs1p ++ uimm.extractLsb' 6 2 ++ rs2p ++ 0b00#2)
  | .cNop => inLowHalf (0x0001#16)
  | .cAddi rd imm => inLowHalf (0b000#3 ++ imm.extractLsb' 5 1 ++ rd ++ imm.extractLsb' 0 5 ++ 0b01#2)
  | .cAddiw rd imm => inLowHalf (0b001#3 ++ imm.extractLsb' 5 1 ++ rd ++ imm.extractLsb' 0 5 ++ 0b01#2)
  | .cLi rd imm => inLowHalf (0b010#3 ++ imm.extractLsb' 5 1 ++ rd ++ imm.extractLsb' 0 5 ++ 0b01#2)
  | .cAddi16sp nzimm => inLowHalf (0b011#3 ++ nzimm.extractLsb' 9 1 ++ sp ++ nzimm.extractLsb' 4 1 ++ nzimm.extractLsb' 6 1 ++ nzimm.extractLsb' 7 2 ++ nzimm.extractLsb' 5 1 ++ 0b01#2)
  | .cLui rd imm => inLowHalf (0b011#3 ++ imm.extractLsb' 5 1 ++ rd ++ imm.extractLsb' 0 5 ++ 0b01#2)
  | .cSrli rdp shamt => inLowHalf (0b100#3 ++ shamt.extractLsb' 5 1 ++ 0b00#2 ++ rdp ++ shamt.extractLsb' 0 5 ++ 0b01#2)
  | .cSrai rdp shamt => inLowHalf (0b100#3 ++ shamt.extractLsb' 5 1 ++ 0b01#2 ++ rdp ++ shamt.extractLsb' 0 5 ++ 0b01#2)
  | .cAndi rdp imm => inLowHalf (0b100#3 ++ imm.extractLsb' 5 1 ++ 0b10#2 ++ rdp ++ imm.extractLsb' 0 5 ++ 0b01#2)
  | .cSub rdp rs2p => inLowHalf (0b100#3 ++ 0b0#1 ++ 0b11#2 ++ rdp ++ 0b00#2 ++ rs2p ++ 0b01#2)
  | .cXor rdp rs2p => inLowHalf (0b100#3 ++ 0b0#1 ++ 0b11#2 ++ rdp ++ 0b01#2 ++ rs2p ++ 0b01#2)
  | .cOr rdp rs2p => inLowHalf (0b100#3 ++ 0b0#1 ++ 0b11#2 ++ rdp ++ 0b10#2 ++ rs2p ++ 0b01#2)
  | .cAnd rdp rs2p => inLowHalf (0b100#3 ++ 0b0#1 ++ 0b11#2 ++ rdp ++ 0b11#2 ++ rs2p ++ 0b01#2)
  | .cSubw rdp rs2p => inLowHalf (0b100#3 ++ 0b1#1 ++ 0b11#2 ++ rdp ++ 0b00#2 ++ rs2p ++ 0b01#2)
  | .cAddw rdp rs2p => inLowHalf (0b100#3 ++ 0b1#1 ++ 0b11#2 ++ rdp ++ 0b01#2 ++ rs2p ++ 0b01#2)
  | .cJ off => inLowHalf (0b101#3 ++ off.extractLsb' 11 1 ++ off.extractLsb' 4 1 ++ off.extractLsb' 8 2 ++ off.extractLsb' 10 1 ++ off.extractLsb' 6 1 ++ off.extractLsb' 7 1 ++ off.extractLsb' 1 3 ++ off.extractLsb' 5 1 ++ 0b01#2)
  | .cBeqz rs1p off => inLowHalf (0b110#3 ++ off.extractLsb' 8 1 ++ off.extractLsb' 3 2 ++ rs1p ++ off.extractLsb' 6 2 ++ off.extractLsb' 1 2 ++ off.extractLsb' 5 1 ++ 0b01#2)
  | .cBnez rs1p off => inLowHalf (0b111#3 ++ off.extractLsb' 8 1 ++ off.extractLsb' 3 2 ++ rs1p ++ off.extractLsb' 6 2 ++ off.extractLsb' 1 2 ++ off.extractLsb' 5 1 ++ 0b01#2)
  | .cSlli rd shamt => inLowHalf (0b000#3 ++ shamt.extractLsb' 5 1 ++ rd ++ shamt.extractLsb' 0 5 ++ 0b10#2)
  | .cLwsp rd uimm => inLowHalf (0b010#3 ++ uimm.extractLsb' 5 1 ++ rd ++ uimm.extractLsb' 2 3 ++ uimm.extractLsb' 6 2 ++ 0b10#2)
  | .cLdsp rd uimm => inLowHalf (0b011#3 ++ uimm.extractLsb' 5 1 ++ rd ++ uimm.extractLsb' 3 2 ++ uimm.extractLsb' 6 3 ++ 0b10#2)
  | .cJr rs1 => inLowHalf (0b1000#4 ++ rs1 ++ 0b00000#5 ++ 0b10#2)
  | .cMv rd rs2 => inLowHalf (0b1000#4 ++ rd ++ rs2 ++ 0b10#2)
  | .cEbreak => inLowHalf (0x9002#16)
  | .cJalr rs1 => inLowHalf (0b1001#4 ++ rs1 ++ 0b00000#5 ++ 0b10#2)
  | .cAdd rd rs2 => inLowHalf (0b1001#4 ++ rd ++ rs2 ++ 0b10#2)
  | .cSwsp rs2 uimm => inLowHalf (0b110#3 ++ uimm.extractLsb' 2 4 ++ uimm.extractLsb' 6 2 ++ rs2 ++ 0b10#2)
  | .cSdsp rs2 uimm => inLowHalf (0b111#3 ++ uimm.extractLsb' 3 3 ++ uimm.extractLsb' 6 3 ++ rs2 ++ 0b10#2)
  | .cFld rdp rs1p hi lo => inLowHalf (0b001#3 ++ hi ++ rs1p ++ lo ++ rdp ++ 0b00#2)
  | .cFsd rs1p rs2p hi lo => inLowHalf (0b101#3 ++ hi ++ rs1p ++ lo ++ rs2p ++ 0b00#2)
  | .cFldsp rd hi lo => inLowHalf (0b001#3 ++ hi ++ rd ++ lo ++ 0b10#2)
  | .cFsdsp rs2 hi => inLowHalf (0b101#3 ++ hi ++ rs2 ++ 0b10#2)

end Sys2Proof
end

