-- ==== Sys2Proof/Machine/Flags.lean ====
section
/-! DEFINITION. RISC-V has no flags and no condition codes (10_state.md R27): a branch or a set-less-than compares two values
itself. These are the comparisons (41_upper_jump_branch.md R161; 43_int_imm.md R191, R192). -/

namespace Sys2Proof.Machine

/-- `signed(a) < signed(b)`, both read as two's complement (41_upper_jump_branch.md R156, R161). -/
def ltSigned (a b : Word) : Bool := decide (a.toInt < b.toInt)

/-- `a < b` unsigned (41_upper_jump_branch.md R158). -/
def ltUnsigned (a b : Word) : Bool := decide (a.toNat < b.toNat)

/-- A condition as a register value, 1 or 0 (43_int_imm.md R191). -/
def boolWord (c : Bool) : Word := if c then 1 else 0

end Sys2Proof.Machine
end

