-- ==== Sys2Proof/Machine/Cells.lean ====
section
/-! DEFINITION. Sparse cells in one canonical form (keys strictly rising, no entry equal to the default), and memory over
them: byte reads and writes, and wider accesses, little-endian (20_memory.md R40, R41). -/

namespace Sys2Proof.Machine

/-- What key `a` holds; `d` where nothing is listed. -/
def Cells.read {α : Type} (d : α) : List (Nat × α) → Nat → α
  | [], _ => d
  | (b, u) :: rest, a => if a = b then u else Cells.read d rest a

/-- The cells with key `a` holding `v`; writing the default removes the entry. -/
def Cells.write {α : Type} [DecidableEq α] (d : α) : List (Nat × α) → Nat → α → List (Nat × α)
  | [], a, v => if v = d then [] else [(a, v)]
  | (b, u) :: rest, a, v =>
    if a < b then (if v = d then (b, u) :: rest else (a, v) :: (b, u) :: rest)
    else if a = b then (if v = d then rest else (a, v) :: rest)
    else (b, u) :: Cells.write d rest a v

/-- Canonical from key `lo` on: keys rise strictly, stay below `bound`, and hold no default. -/
def Cells.wfFrom {α : Type} [DecidableEq α] (d : α) (bound : Nat) : Nat → List (Nat × α) → Bool
  | _, [] => true
  | lo, (a, u) :: rest => decide (lo ≤ a) && decide (a < bound) && decide (u ≠ d) && Cells.wfFrom d bound (a + 1) rest

/-- The canonical form. -/
def Cells.wf {α : Type} [DecidableEq α] (d : α) (bound : Nat) (l : List (Nat × α)) : Bool :=
  Cells.wfFrom d bound 0 l

/-- Memory: the whole flat 64-bit address space (20_memory.md R40). -/
abbrev Memory := List Host.Cell

/-- What an unlisted byte reads as. DESIGN CHOICE (log entry 5), unsafe: the zeros of the spec's example start state
(95_test_vectors.md Part C). -/
def Memory.unlisted : Byte := 0#8

def Memory.readByte (m : Memory) (a : Word) : Byte := Cells.read Memory.unlisted m a.toNat

def Memory.writeByte (m : Memory) (a : Word) (v : Byte) : Memory := Cells.write Memory.unlisted m a.toNat v

/-- `MemRead(a, n)`: n bytes, the lowest address holding the low bits; addresses wrap mod 2^64 (log entry 5). -/
def Memory.read (m : Memory) (a : Word) : (n : Nat) → BitVec (8 * n)
  | 0 => 0#0
  | n + 1 => Memory.read m (a + 1) n ++ m.readByte a

/-- `MemWrite(a, n, v)`: the inverse of `Memory.read`. -/
def Memory.write (m : Memory) (a : Word) : (n : Nat) → BitVec (8 * n) → Memory
  | 0, _ => m
  | n + 1, v => (Memory.write m (a + 1) n (v.extractLsb' 8 (8 * n))).writeByte a (v.extractLsb' 0 8)

/-- The canonical form of memory. -/
def Memory.wf (m : Memory) : Bool := Cells.wf Memory.unlisted (2 ^ 64) m

end Sys2Proof.Machine
end

