-- ==== Sys2Proof/Machine/State.lean ====
section
/-! DEFINITION. The state of the hart that consumes the block, with the parameters of the instance (10_state.md section 2;
60_exceptions.md R381 to R390; 70_reset_and_hazards.md R400, R401). The block itself holds nothing (10_state.md R20). -/

namespace Sys2Proof.Machine

/-- Privilege modes (60_exceptions.md R382, R389). -/
inductive Mode where
  | user
  | supervisor
  | machine
  deriving DecidableEq, Repr

/-- Why the machine stops with a fault. No step raises one (60_exceptions.md R395). -/
inductive Fault where
  /-- Raised by the trap-return operation alone, when mstatus.MPP holds the reserved value 2, a mode the spec does not name
  (60_exceptions.md R387; log entry 14). No decoded instruction reaches it. Safe: the model stops where hardware might go on. -/
  | reservedPrivilege
  deriving DecidableEq, Repr

/-- Why an instruction has no meaning. -/
inductive Refusal where
  /-- Raised by an arm of `exec` whose instruction has no meaning yet; no arm does. Safe. -/
  | notModelled (mnemonic : String)
  deriving DecidableEq, Repr

/-- The consuming hart. x0 has no storage: it reads zero and its writes are discarded (10_state.md R24). -/
structure State where
  /-- x1 to x31 (10_state.md R22). -/
  regs    : Vector Word 31
  /-- The address of the instruction (10_state.md R26). -/
  pc      : Word
  /-- The current privilege mode (60_exceptions.md R386). -/
  mode    : Mode
  /-- mstatus, with MIE, MPIE and MPP (60_exceptions.md R386). -/
  mstatus : Word
  /-- mtvec, with BASE and MODE (60_exceptions.md R386). -/
  mtvec   : Word
  /-- mepc, the pc a trap saves (60_exceptions.md R386). -/
  mepc    : Word
  /-- mcause, the code of a trap (60_exceptions.md R386). -/
  mcause  : Word
  /-- mtval, the value a trap records (60_exceptions.md R381, R386). -/
  mtval   : Word
  /-- Every other CSR, by its 12-bit address, in canonical form (10_state.md R28; 46_fence_system_csr.md R270). -/
  csrs    : List (Nat × BitVec 64)
  /-- Memory (20_memory.md R40). -/
  mem     : Memory
  /-- The memories that stores have replaced since the last FENCE.I, newest first: a fetch may still see any of them
  (20_memory.md R53; 92_eei_decisions.md D30). -/
  oldMems : List Memory
  /-- The parameters of the instance (92_eei_decisions.md, "Named parameters"); no step changes them. -/
  params  : Params
  /-- The model's own counter, which every step advances; free values are applied to it (log entry 2). -/
  draws   : Nat
  deriving DecidableEq, Repr

/-- The answer of a step or of a meaning. -/
abbrev Result := Host.Outcome State Fault Refusal

/-- A hart right after reset, for any parameters and any reset vector: machine mode and MIE = 0 (70_reset_and_hazards.md
R401). The registers and CSRs, which R401 leaves unspecified, hold 0: DESIGN CHOICE (log entry 4; for mcause and mstatus.MPRV
the family's value, PRESUMED, log entry 11), unsafe. -/
def State.resetAt (p : Params) (vector : Word) : State where
  regs    := Vector.replicate 31 0
  pc      := vector
  mode    := .machine
  mstatus := 0
  mtvec   := 0
  mepc    := 0
  mcause  := 0
  mtval   := 0
  csrs    := []
  mem     := []
  oldMems := []
  params  := p
  draws   := 0

/-- The machine right after reset: the default parameters, and the reset vector of log entry 3. -/
def State.reset : State := State.resetAt Params.default Config.resetVector

end Sys2Proof.Machine
end

