-- ==== Sys2Proof/Machine/Operands.lean ====
section
/-! DEFINITION. The operand forms of a meaning: registers, immediates as 64-bit values, effective addresses and shift
amounts (10_state.md R22 to R24; 30_encoding.md R69 to R79; 42_load_store.md R181 to R183). -/

namespace Sys2Proof.Machine

/-- The storage index of a register other than x0. -/
theorem reg_index_lt (r : RegIdx) (h : r ≠ 0#5) : r.toNat - 1 < 31 := by
  have : r.toNat < 32 := r.isLt
  have : r.toNat ≠ 0 := fun h0 => h (by apply BitVec.eq_of_toNat_eq; simpa using h0)
  omega

/-- `x[r]`; x0 reads as zero (10_state.md R24). -/
def State.reg (s : State) (r : RegIdx) : Word :=
  if h : r = 0#5 then 0 else s.regs[r.toNat - 1]'(reg_index_lt r h)

/-- `x[r] <- v`; a write to x0 is discarded (10_state.md R24). -/
def State.setReg (s : State) (r : RegIdx) (v : Word) : State :=
  if h : r = 0#5 then s else { s with regs := s.regs.set (r.toNat - 1) v (reg_index_lt r h) }

/-- A signed immediate as the carrier delivers it (30_encoding.md R69 to R75). -/
def simm {n : Nat} (imm : BitVec n) : Word := imm.signExtend 64

/-- An unsigned immediate as the carrier delivers it (30_encoding.md R79; 48_compressed_expander.md R310 to R342). -/
def uimm {n : Nat} (imm : BitVec n) : Word := imm.zeroExtend 64

/-- imm_U of a 20-bit field: zero-extended (30_encoding.md R74). -/
def immUOf (imm : BitVec 20) : Word := (imm ++ 0#12 : BitVec 32).zeroExtend 64

/-- `sext_64(imm[31:0])`, the extension the executor of LUI and AUIPC applies itself (30_encoding.md R74). -/
def sextU (imm : Word) : Word := (imm.extractLsb' 0 32).signExtend 64

/-- The low 32 bits of a register value (45_word_ops.md preamble). -/
def low32 (v : Word) : BitVec 32 := v.extractLsb' 0 32

/-- A 32-bit result sign-extended to 64 bits (45_word_ops.md preamble). -/
def sext32 (v : BitVec 32) : Word := v.signExtend 64

/-- `x[rs1] + imm` mod 2^64, the only addressing mode (42_load_store.md R181). -/
def State.effAddr (s : State) (rs1 : RegIdx) (imm : Word) : Word := s.reg rs1 + imm

/-- `x[rs2][5:0]` (44_int_reg.md R212). -/
def shiftAmount64 (v : Word) : Nat := (v.extractLsb' 0 6).toNat

/-- `x[rs2][4:0]` (45_word_ops.md R255). -/
def shiftAmount32 (v : Word) : Nat := (v.extractLsb' 0 5).toNat

end Sys2Proof.Machine
end

