-- ==== Sys2Proof/Machine/Ops.lean ====
section
/-! DEFINITION. The named operations a meaning is written over: results and control transfer, loads and stores, taking a
trap and returning from one, CSR access, the two compressed paths, and the fetch. -/

namespace Sys2Proof.Machine

/-! ## Results and control transfer (10_state.md R26; 41_upper_jump_branch.md R152 to R161) -/

/-- The sequential next pc and the link value, `pc + len` (10_state.md R26). Past the top of the address space, which R26 leaves
to the executor, the sum wraps mod 2^64: DESIGN CHOICE (log entry 20), unsafe. -/
def State.nextPc (s : State) (len : Nat) : Word := s.pc + BitVec.ofNat 64 len

def State.advance (s : State) (len : Nat) : State := { s with pc := s.nextPc len }

/-- `x[rd] <- v`, then the next instruction. -/
def State.regResult (s : State) (len : Nat) (rd : RegIdx) (v : Word) : Result :=
  .next ((s.setReg rd v).advance len)

/-- `pc <- pc + imm` if the condition holds, else `pc <- pc + len` (R161). -/
def State.branch (s : State) (len : Nat) (taken : Bool) (imm : Word) : Result :=
  .next { s with pc := if taken then s.pc + imm else s.nextPc len }

/-- `x[rd] <- pc + len; pc <- target`, the target taken before rd is written (R152, R153). -/
def State.link (s : State) (len : Nat) (rd : RegIdx) (target : Word) : Result :=
  .next { s.setReg rd (s.nextPc len) with pc := target }

/-! ## Trap entry and trap return (60_exceptions.md R381 to R387) -/

/-- The exceptions of 60_exceptions.md R382. -/
inductive Exc where
  | instrMisaligned
  | instrAccess
  | illegalInstr
  | breakpoint
  | loadMisaligned
  | loadAccess
  | storeMisaligned
  | storeAccess
  | ecallU
  | ecallS
  | ecallM
  | instrPage
  | loadPage
  | storePage
  deriving DecidableEq, Repr

/-- The exception code (R382). -/
def Exc.code : Exc → Nat
  | .instrMisaligned => 0
  | .instrAccess => 1
  | .illegalInstr => 2
  | .breakpoint => 3
  | .loadMisaligned => 4
  | .loadAccess => 5
  | .storeMisaligned => 6
  | .storeAccess => 7
  | .ecallU => 8
  | .ecallS => 9
  | .ecallM => 11
  | .instrPage => 12
  | .loadPage => 13
  | .storePage => 15

/-- The two-bit code of a mode in mstatus.MPP and in a CSR address. PRESUMED, the family's (log entry 11). -/
def Mode.bits : Mode → BitVec 2
  | .user => 0b00#2
  | .supervisor => 0b01#2
  | .machine => 0b11#2

/-- The mode a two-bit code names; 2 is reserved. -/
def Mode.ofBits (b : BitVec 2) : Option Mode :=
  if b = 0b00#2 then some .user
  else if b = 0b01#2 then some .supervisor
  else if b = 0b11#2 then some .machine
  else none

/-- mstatus.MIE, bit 3. PRESUMED (log entry 11). -/
def statusMIE (v : Word) : BitVec 1 := v.extractLsb' 3 1

/-- mstatus.MPIE, bit 7. PRESUMED (log entry 11). -/
def statusMPIE (v : Word) : BitVec 1 := v.extractLsb' 7 1

/-- mstatus.MPP, bits 12:11. PRESUMED (log entry 11). -/
def statusMPP (v : Word) : BitVec 2 := v.extractLsb' 11 2

/-- `MPIE <- MIE, MIE <- 0, MPP <- current mode`, every other bit kept (R386). -/
def statusAtTrap (v : Word) (m : Mode) : Word :=
  v.extractLsb' 13 51 ++ m.bits ++ v.extractLsb' 8 3 ++ statusMIE v ++ v.extractLsb' 4 3 ++ 0#1 ++ v.extractLsb' 0 3

/-- `MIE <- MPIE`, every other bit kept (R387). -/
def statusAtReturn (v : Word) : Word :=
  v.extractLsb' 4 60 ++ statusMPIE v ++ v.extractLsb' 0 3

/-- mtvec.BASE, the low two bits cleared. PRESUMED layout (log entry 11). -/
def trapBase (mtvec : Word) : Word := mtvec.extractLsb' 2 62 ++ 0#2

/-- Where a trap goes: BASE, or BASE + 4 × cause for an interrupt in vectored mode (R386). -/
def trapTarget (mtvec : Word) (interrupt : Bool) (code : Nat) : Word :=
  if interrupt && mtvec.extractLsb' 0 2 == 0b01#2 then trapBase mtvec + BitVec.ofNat 64 (4 * code) else trapBase mtvec

/-- The value mcause records: the code, bit 63 marking an interrupt. PRESUMED (log entry 11). -/
def causeWord (interrupt : Bool) (code : Nat) : Word := BitVec.ofBool interrupt ++ BitVec.ofNat 63 code

/-- Taking a trap, in a machine-mode-only core (R386). -/
def State.takeTrap (s : State) (interrupt : Bool) (code : Nat) (tval : Word) : State :=
  { s with
    mepc := s.pc
    mcause := causeWord interrupt code
    mtval := tval
    mstatus := statusAtTrap s.mstatus s.mode
    mode := .machine
    pc := trapTarget s.mtvec interrupt code }

/-- An exception for which R381 states no mtval: a free value is recorded (log entry 10). -/
def State.exception (s : State) (e : Exc) : Result :=
  .next (s.takeTrap false e.code (Config.freeTval s.draws))

/-- mtval of an illegal instruction: its bits, a compressed parcel zero-extended, or 0 (R381, `ILLEGAL_TVAL`). -/
def illegalTval (p : Params) (bits : Word32) : Word :=
  match p.illegalTval with
  | .bits => bits.zeroExtend 64
  | .zero => 0

/-- The illegal-instruction exception (R381). -/
def State.illegalInstruction (s : State) (bits : Word32) : Result :=
  .next (s.takeTrap false Exc.illegalInstr.code (illegalTval s.params bits))

/-- The environment-call exception of a mode (R382, R383). -/
def ecallOf : Mode → Exc
  | .user => .ecallU
  | .supervisor => .ecallS
  | .machine => .ecallM

/-- Returning from a trap: `pc <- mepc`, `mode <- MPP`, `MIE <- MPIE` (R387). No decoded instruction does it: MRET is
`Err(Unimplemented)` (40_dispatch.md R126). -/
def State.trapReturn (s : State) : Result :=
  match Mode.ofBits (statusMPP s.mstatus) with
  | some m => .next { s with pc := s.mepc, mode := m, mstatus := statusAtReturn s.mstatus }
  | none => .fault .reservedPrivilege

/-! ## Loads and stores (42_load_store.md R181 to R183) -/

/-- Whether a data access takes the misaligned exception: the environment's choice (R181; log entry 8). -/
def State.misalignedTraps (s : State) (a : Word) (n : Nat) : Bool :=
  s.params.misaligned == .trap && a.toNat % n != 0

/-- A load of n bytes whose value `ext` extends (R181, R182). -/
def State.load (s : State) (len : Nat) (n : Nat) (ext : BitVec (8 * n) → Word) (rd rs1 : RegIdx) (imm : Word) : Result :=
  if s.misalignedTraps (s.effAddr rs1 imm) n then s.exception .loadMisaligned
  else s.regResult len rd (ext (s.mem.read (s.effAddr rs1 imm) n))

/-- Memory with n bytes stored; the memory before the store stays visible to a fetch until FENCE.I (20_memory.md R53). -/
def State.storeBytes (s : State) (a : Word) (n : Nat) (v : BitVec (8 * n)) : State :=
  { s with mem := s.mem.write a n v, oldMems := s.mem :: s.oldMems }

/-- A store of the low n bytes of x[rs2] (R181, R183). -/
def State.store (s : State) (len : Nat) (n : Nat) (rs1 rs2 : RegIdx) (imm : Word) : Result :=
  if s.misalignedTraps (s.effAddr rs1 imm) n then s.exception .storeMisaligned
  else .next ((s.storeBytes (s.effAddr rs1 imm) n ((s.reg rs2).extractLsb' 0 (8 * n))).advance len)

/-- FENCE.I: later fetches observe every earlier store (20_memory.md R53; 46_fence_system_csr.md R261). -/
def State.syncFetch (s : State) : State := { s with oldMems := [] }

/-! ## CSR access (46_fence_system_csr.md R264 to R273) -/

/-- The CSRs that trap entry and return use. The addresses of mepc, mcause and mtval are PRESUMED (log entry 11). -/
def csrMstatus : CsrIdx := 0x300#12
def csrMtvec : CsrIdx := 0x305#12
def csrMepc : CsrIdx := 0x341#12
def csrMcause : CsrIdx := 0x342#12
def csrMtval : CsrIdx := 0x343#12

/-- cycle, time and instret (60_exceptions.md R390). -/
def isCounter (a : CsrIdx) : Bool := a == 0xC00#12 || a == 0xC01#12 || a == 0xC02#12

/-- `CSR[a]`; a counter gives a free value (log entry 7). -/
def State.readCsr (s : State) (a : CsrIdx) : Word :=
  if a = csrMstatus then s.mstatus
  else if a = csrMtvec then s.mtvec
  else if a = csrMepc then s.mepc
  else if a = csrMcause then s.mcause
  else if a = csrMtval then s.mtval
  else if isCounter a then Config.freeCounter s.draws
  else Cells.read 0#64 s.csrs a.toNat

/-- `CSR[a] <- v`, all 64 bits (log entry 12). -/
def State.writeCsr (s : State) (a : CsrIdx) (v : Word) : State :=
  if a = csrMstatus then { s with mstatus := v }
  else if a = csrMtvec then { s with mtvec := v }
  else if a = csrMepc then { s with mepc := v }
  else if a = csrMcause then { s with mcause := v }
  else if a = csrMtval then { s with mtval := v }
  else { s with csrs := Cells.write 0#64 s.csrs a.toNat v }

/-- csr[11:10] = 11 marks a read-only CSR (R270). -/
def csrReadOnly (a : CsrIdx) : Bool := a.extractLsb' 10 2 == 0b11#2

/-- csr[9:8] is the lowest privilege that may access it (R270); its value 10 names no mode (log entry 19). -/
def csrPrivilege (a : CsrIdx) : BitVec 2 := a.extractLsb' 8 2

/-- Whether an access is allowed: the CSR exists, the mode is high enough, and it is not a write to a read-only CSR (R270;
log entry 6 for existence). Modes and csr[9:8] are compared as numbers, so that csr[9:8] = 10, which names no mode of the
spec, lets machine mode alone in: DESIGN CHOICE (log entry 19), unsafe. -/
def State.csrPermitted (s : State) (a : CsrIdx) (writes : Bool) : Bool :=
  !s.params.absentCsrs.contains a && decide ((csrPrivilege a).toNat ≤ s.mode.bits.toNat) && !(writes && csrReadOnly a)

/-- `t <- CSR[a]`, then the write if there is one, then `x[rd] <- t` (R273); an access that is not allowed raises
illegal-instruction (R270). A CSR read has no side effect here, so the form with rd = x0 needs no case of its own (R273). -/
def State.csrOp (s : State) (len : Nat) (bits : Word32) (rd : RegIdx) (a : CsrIdx) (writes : Bool) (f : Word → Word) :
    Result :=
  if s.csrPermitted a writes then
    (if writes then s.writeCsr a (f (s.readCsr a)) else s).regResult len rd (s.readCsr a)
  else s.illegalInstruction bits

/-! ## The compressed paths and the fetch -/

/-- A compressed form that only the expander decodes: on the QUADRANT path it is `Err(Unimplemented)`
(47_compressed_decoder.md R286), which the consumer takes as illegal instruction (60_exceptions.md R381). -/
def State.onExpandPath (s : State) (parcel : Word32) (run : Result) : Result :=
  match s.params.compressedPath with
  | .expand => run
  | .quadrant => s.illegalInstruction parcel

/-- A choice among candidates by a free index. -/
def pick (k : Nat) (l : List Word32) (dflt : Word32) : Word32 := l.getD (k % l.length) dflt

/-- The words a fetch may give: memory's, and those of the memories stores have replaced since the last FENCE.I
(92_eei_decisions.md D30), each one consistent word (20_memory.md R45). -/
def State.fetchCandidates (s : State) : List Word32 := (s.mem :: s.oldMems).map (fun m => m.read s.pc 4)

/-- The 32 bits a fetch gives: the one word where every candidate is that word, else a free choice. -/
def State.fetchWord (s : State) : Word32 :=
  if s.oldMems.all (fun m => m.read s.pc 4 == s.mem.read s.pc 4) then s.mem.read s.pc 4
  else pick (Config.freeFetch s.draws) s.fetchCandidates (s.mem.read s.pc 4)

/-- The instruction bits mtval records: a standard word, or the zero-extended parcel (60_exceptions.md R381). -/
def instructionBits (fetch : Word32) : Word32 :=
  if isStandard fetch then fetch else inLowHalf (lowHalf fetch)

/-- A fetch that decodes to no form: illegal instruction for either error (60_exceptions.md R381), one arm for each
(40_dispatch.md R141). -/
def State.undecodable (s : State) (e : DecodingError) (fetch : Word32) : Result :=
  match e with
  | .unimplemented => s.illegalInstruction (instructionBits fetch)
  | .illegal => s.illegalInstruction (instructionBits fetch)

/-- An odd pc raises instruction-address-misaligned (20_memory.md R44). -/
def State.pcMisaligned (s : State) : Bool := s.pc.extractLsb' 0 1 == 1#1

/-- One step's tick of the free-value counter (log entry 2). -/
def State.tick (s : State) : State := { s with draws := s.draws + 1 }

end Sys2Proof.Machine
end

