-- ==== Sys2Proof/Machine/FenceSystemCsr.lean ====
section
/-! DEFINITION. Fences, environment call, breakpoint and CSR instructions (46_fence_system_csr.md R260 to R273). -/

namespace Sys2Proof.Machine

/-! ## The variants' meanings, for a length `len` (informative downstream meanings: executed by the consumer, log entry 1) -/

/-- FENCE (R260): one in-order hart has nothing to order, so it only advances the pc (20_memory.md R50, R51). -/
def runFence (len : Nat) (s : State) : Result :=
  .next (s.advance len)

/-- FENCE.I (R261): later fetches observe earlier stores. -/
def runFenceI (len : Nat) (s : State) : Result :=
  .next (s.syncFetch.advance len)

/-- ECALL (R262): the environment-call exception of the current mode (60_exceptions.md R383). -/
def runEcall (s : State) : Result :=
  s.exception (ecallOf s.mode)

/-- EBREAK (R263): the breakpoint exception (60_exceptions.md R383). -/
def runEbreak (s : State) : Result :=
  s.exception .breakpoint

/-- CSRRW (R264). -/
def runCsrrw (len : Nat) (bits : Word32) (rd rs1 : RegIdx) (csr : CsrIdx) (s : State) : Result :=
  s.csrOp len bits rd csr true (fun _ => s.reg rs1)

/-- CSRRS (R265). -/
def runCsrrs (len : Nat) (bits : Word32) (rd rs1 : RegIdx) (csr : CsrIdx) (s : State) : Result :=
  s.csrOp len bits rd csr (rs1 != 0) (fun t => t ||| s.reg rs1)

/-- CSRRC (R266). -/
def runCsrrc (len : Nat) (bits : Word32) (rd rs1 : RegIdx) (csr : CsrIdx) (s : State) : Result :=
  s.csrOp len bits rd csr (rs1 != 0) (fun t => t &&& ~~~(s.reg rs1))

/-- CSRRWI (R267). -/
def runCsrrwi (len : Nat) (bits : Word32) (rd : RegIdx) (zimm : BitVec 5) (csr : CsrIdx) (s : State) : Result :=
  s.csrOp len bits rd csr true (fun _ => uimm zimm)

/-- CSRRSI (R268). -/
def runCsrrsi (len : Nat) (bits : Word32) (rd : RegIdx) (zimm : BitVec 5) (csr : CsrIdx) (s : State) : Result :=
  s.csrOp len bits rd csr (zimm != 0) (fun t => t ||| uimm zimm)

/-- CSRRCI (R269). -/
def runCsrrci (len : Nat) (bits : Word32) (rd : RegIdx) (zimm : BitVec 5) (csr : CsrIdx) (s : State) : Result :=
  s.csrOp len bits rd csr (zimm != 0) (fun t => t &&& ~~~(uimm zimm))

/-! ## The standard forms: length 4, immediates as the carrier delivers them -/

/-- FENCE (R260). -/
def execFence (_rd _rs1 : RegIdx) (_fm _pred _succ : BitVec 4) (s : State) : Result :=
  runFence 4 s

/-- FENCE.I (R261). -/
def execFenceI (_rd _rs1 : RegIdx) (_imm : BitVec 12) (s : State) : Result :=
  runFenceI 4 s

/-- ECALL (R262). -/
def execEcall (s : State) : Result :=
  runEcall s

/-- EBREAK (R263). -/
def execEbreak (s : State) : Result :=
  runEbreak s

/-- CSRRW (R264). -/
def execCsrrw (rd rs1 : RegIdx) (csr : CsrIdx) (s : State) : Result :=
  runCsrrw 4 (encode (.csrrw rd rs1 csr)) rd rs1 csr s

/-- CSRRS (R265). -/
def execCsrrs (rd rs1 : RegIdx) (csr : CsrIdx) (s : State) : Result :=
  runCsrrs 4 (encode (.csrrs rd rs1 csr)) rd rs1 csr s

/-- CSRRC (R266). -/
def execCsrrc (rd rs1 : RegIdx) (csr : CsrIdx) (s : State) : Result :=
  runCsrrc 4 (encode (.csrrc rd rs1 csr)) rd rs1 csr s

/-- CSRRWI (R267). -/
def execCsrrwi (rd : RegIdx) (zimm : BitVec 5) (csr : CsrIdx) (s : State) : Result :=
  runCsrrwi 4 (encode (.csrrwi rd zimm csr)) rd zimm csr s

/-- CSRRSI (R268). -/
def execCsrrsi (rd : RegIdx) (zimm : BitVec 5) (csr : CsrIdx) (s : State) : Result :=
  runCsrrsi 4 (encode (.csrrsi rd zimm csr)) rd zimm csr s

/-- CSRRCI (R269). -/
def execCsrrci (rd : RegIdx) (zimm : BitVec 5) (csr : CsrIdx) (s : State) : Result :=
  runCsrrci 4 (encode (.csrrci rd zimm csr)) rd zimm csr s

end Sys2Proof.Machine
end

