-- ==== Sys2Proof/Machine/IntImm.lean ====
section
/-! DEFINITION. Integer register-immediate instructions (43_int_imm.md R190 to R201): 64-bit, wrapping. -/

namespace Sys2Proof.Machine

/-! ## The variants' meanings, for a length `len` (informative downstream meanings: executed by the consumer, log entry 1) -/

/-- ADDI (R190). -/
def runAddi (len : Nat) (rd rs1 : RegIdx) (imm : Word) (s : State) : Result :=
  s.regResult len rd (s.reg rs1 + imm)

/-- SLTI (R191). -/
def runSlti (len : Nat) (rd rs1 : RegIdx) (imm : Word) (s : State) : Result :=
  s.regResult len rd (boolWord (ltSigned (s.reg rs1) imm))

/-- SLTIU (R192). -/
def runSltiu (len : Nat) (rd rs1 : RegIdx) (imm : Word) (s : State) : Result :=
  s.regResult len rd (boolWord (ltUnsigned (s.reg rs1) imm))

/-- XORI (R193). -/
def runXori (len : Nat) (rd rs1 : RegIdx) (imm : Word) (s : State) : Result :=
  s.regResult len rd (s.reg rs1 ^^^ imm)

/-- ORI (R194). -/
def runOri (len : Nat) (rd rs1 : RegIdx) (imm : Word) (s : State) : Result :=
  s.regResult len rd (s.reg rs1 ||| imm)

/-- ANDI (R195). -/
def runAndi (len : Nat) (rd rs1 : RegIdx) (imm : Word) (s : State) : Result :=
  s.regResult len rd (s.reg rs1 &&& imm)

/-- SLLI (R196). -/
def runSlli (len : Nat) (rd rs1 : RegIdx) (shamt : BitVec 6) (s : State) : Result :=
  s.regResult len rd (s.reg rs1 <<< shamt.toNat)

/-- SRLI (R197). -/
def runSrli (len : Nat) (rd rs1 : RegIdx) (shamt : BitVec 6) (s : State) : Result :=
  s.regResult len rd (s.reg rs1 >>> shamt.toNat)

/-- SRAI (R198). -/
def runSrai (len : Nat) (rd rs1 : RegIdx) (shamt : BitVec 6) (s : State) : Result :=
  s.regResult len rd ((s.reg rs1).sshiftRight shamt.toNat)

/-! ## The standard forms: length 4, immediates as the carrier delivers them -/

/-- ADDI (R190). -/
def execAddi (rd rs1 : RegIdx) (imm : BitVec 12) (s : State) : Result :=
  runAddi 4 rd rs1 (simm imm) s

/-- SLTI (R191). -/
def execSlti (rd rs1 : RegIdx) (imm : BitVec 12) (s : State) : Result :=
  runSlti 4 rd rs1 (simm imm) s

/-- SLTIU (R192). -/
def execSltiu (rd rs1 : RegIdx) (imm : BitVec 12) (s : State) : Result :=
  runSltiu 4 rd rs1 (simm imm) s

/-- XORI (R193). -/
def execXori (rd rs1 : RegIdx) (imm : BitVec 12) (s : State) : Result :=
  runXori 4 rd rs1 (simm imm) s

/-- ORI (R194). -/
def execOri (rd rs1 : RegIdx) (imm : BitVec 12) (s : State) : Result :=
  runOri 4 rd rs1 (simm imm) s

/-- ANDI (R195). -/
def execAndi (rd rs1 : RegIdx) (imm : BitVec 12) (s : State) : Result :=
  runAndi 4 rd rs1 (simm imm) s

/-- SLLI (R196). -/
def execSlli (rd rs1 : RegIdx) (shamt : BitVec 6) (s : State) : Result :=
  runSlli 4 rd rs1 shamt s

/-- SRLI (R197). -/
def execSrli (rd rs1 : RegIdx) (shamt : BitVec 6) (s : State) : Result :=
  runSrli 4 rd rs1 shamt s

/-- SRAI (R198). -/
def execSrai (rd rs1 : RegIdx) (shamt : BitVec 6) (s : State) : Result :=
  runSrai 4 rd rs1 shamt s

end Sys2Proof.Machine
end

