-- ==== Sys2Proof/Machine/Arith.lean ====
section
/-! DEFINITION. Multiply, divide and remainder as values: computed exactly on integers and narrowed at the end
(44_int_reg.md R220 to R228; 45_word_ops.md R249 to R255). -/

namespace Sys2Proof.Machine

/-- Bits 127:64 of signed × signed (44_int_reg.md R221). -/
def mulHighSS (a b : Word) : Word := BitVec.ofInt 64 (a.toInt * b.toInt / 2 ^ 64)

/-- Bits 127:64 of signed × unsigned (44_int_reg.md R222). -/
def mulHighSU (a b : Word) : Word := BitVec.ofInt 64 (a.toInt * (b.toNat : Int) / 2 ^ 64)

/-- Bits 127:64 of unsigned × unsigned (44_int_reg.md R223). -/
def mulHighUU (a b : Word) : Word := BitVec.ofNat 64 (a.toNat * b.toNat / 2 ^ 64)

/-- Signed division rounding toward zero; all ones for a zero divisor; the overflow case wraps (44_int_reg.md R224, R228). -/
def divSigned {n : Nat} (a b : BitVec n) : BitVec n :=
  if b = 0#n then BitVec.allOnes n else BitVec.ofInt n (a.toInt.tdiv b.toInt)

/-- Unsigned division; all ones for a zero divisor (44_int_reg.md R225, R228). -/
def divUnsigned {n : Nat} (a b : BitVec n) : BitVec n :=
  if b = 0#n then BitVec.allOnes n else BitVec.ofNat n (a.toNat / b.toNat)

/-- Signed remainder with the sign of the dividend; the dividend for a zero divisor (44_int_reg.md R226, R228). -/
def remSigned {n : Nat} (a b : BitVec n) : BitVec n :=
  if b = 0#n then a else BitVec.ofInt n (a.toInt.tmod b.toInt)

/-- Unsigned remainder; the dividend for a zero divisor (44_int_reg.md R227, R228). -/
def remUnsigned {n : Nat} (a b : BitVec n) : BitVec n :=
  if b = 0#n then a else BitVec.ofNat n (a.toNat % b.toNat)

end Sys2Proof.Machine
end

