-- ==== Sys2Proof/Machine/IntReg.lean ====
section
/-! DEFINITION. Integer register-register instructions, base and M (44_int_reg.md R210 to R230). -/

namespace Sys2Proof.Machine

/-! ## The variants' meanings, for a length `len` (informative downstream meanings: executed by the consumer, log entry 1) -/

/-- ADD (R210). -/
def runAdd (len : Nat) (rd rs1 rs2 : RegIdx) (s : State) : Result :=
  s.regResult len rd (s.reg rs1 + s.reg rs2)

/-- SUB (R211). -/
def runSub (len : Nat) (rd rs1 rs2 : RegIdx) (s : State) : Result :=
  s.regResult len rd (s.reg rs1 - s.reg rs2)

/-- SLL (R212). -/
def runSll (len : Nat) (rd rs1 rs2 : RegIdx) (s : State) : Result :=
  s.regResult len rd (s.reg rs1 <<< shiftAmount64 (s.reg rs2))

/-- SLT (R213). -/
def runSlt (len : Nat) (rd rs1 rs2 : RegIdx) (s : State) : Result :=
  s.regResult len rd (boolWord (ltSigned (s.reg rs1) (s.reg rs2)))

/-- SLTU (R214). -/
def runSltu (len : Nat) (rd rs1 rs2 : RegIdx) (s : State) : Result :=
  s.regResult len rd (boolWord (ltUnsigned (s.reg rs1) (s.reg rs2)))

/-- XOR (R215). -/
def runXor (len : Nat) (rd rs1 rs2 : RegIdx) (s : State) : Result :=
  s.regResult len rd (s.reg rs1 ^^^ s.reg rs2)

/-- SRL (R216). -/
def runSrl (len : Nat) (rd rs1 rs2 : RegIdx) (s : State) : Result :=
  s.regResult len rd (s.reg rs1 >>> shiftAmount64 (s.reg rs2))

/-- SRA (R217). -/
def runSra (len : Nat) (rd rs1 rs2 : RegIdx) (s : State) : Result :=
  s.regResult len rd ((s.reg rs1).sshiftRight (shiftAmount64 (s.reg rs2)))

/-- OR (R218). -/
def runOr (len : Nat) (rd rs1 rs2 : RegIdx) (s : State) : Result :=
  s.regResult len rd (s.reg rs1 ||| s.reg rs2)

/-- AND (R219). -/
def runAnd (len : Nat) (rd rs1 rs2 : RegIdx) (s : State) : Result :=
  s.regResult len rd (s.reg rs1 &&& s.reg rs2)

/-- MUL (R220). -/
def runMul (len : Nat) (rd rs1 rs2 : RegIdx) (s : State) : Result :=
  s.regResult len rd (s.reg rs1 * s.reg rs2)

/-- MULH (R221). -/
def runMulh (len : Nat) (rd rs1 rs2 : RegIdx) (s : State) : Result :=
  s.regResult len rd (mulHighSS (s.reg rs1) (s.reg rs2))

/-- MULHSU (R222). -/
def runMulhsu (len : Nat) (rd rs1 rs2 : RegIdx) (s : State) : Result :=
  s.regResult len rd (mulHighSU (s.reg rs1) (s.reg rs2))

/-- MULHU (R223). -/
def runMulhu (len : Nat) (rd rs1 rs2 : RegIdx) (s : State) : Result :=
  s.regResult len rd (mulHighUU (s.reg rs1) (s.reg rs2))

/-- DIV (R224). -/
def runDiv (len : Nat) (rd rs1 rs2 : RegIdx) (s : State) : Result :=
  s.regResult len rd (divSigned (s.reg rs1) (s.reg rs2))

/-- DIVU (R225). -/
def runDivu (len : Nat) (rd rs1 rs2 : RegIdx) (s : State) : Result :=
  s.regResult len rd (divUnsigned (s.reg rs1) (s.reg rs2))

/-- REM (R226). -/
def runRem (len : Nat) (rd rs1 rs2 : RegIdx) (s : State) : Result :=
  s.regResult len rd (remSigned (s.reg rs1) (s.reg rs2))

/-- REMU (R227). -/
def runRemu (len : Nat) (rd rs1 rs2 : RegIdx) (s : State) : Result :=
  s.regResult len rd (remUnsigned (s.reg rs1) (s.reg rs2))

/-! ## The standard forms: length 4, immediates as the carrier delivers them -/

/-- ADD (R210). -/
def execAdd (rd rs1 rs2 : RegIdx) (s : State) : Result :=
  runAdd 4 rd rs1 rs2 s

/-- SUB (R211). -/
def execSub (rd rs1 rs2 : RegIdx) (s : State) : Result :=
  runSub 4 rd rs1 rs2 s

/-- SLL (R212). -/
def execSll (rd rs1 rs2 : RegIdx) (s : State) : Result :=
  runSll 4 rd rs1 rs2 s

/-- SLT (R213). -/
def execSlt (rd rs1 rs2 : RegIdx) (s : State) : Result :=
  runSlt 4 rd rs1 rs2 s

/-- SLTU (R214). -/
def execSltu (rd rs1 rs2 : RegIdx) (s : State) : Result :=
  runSltu 4 rd rs1 rs2 s

/-- XOR (R215). -/
def execXor (rd rs1 rs2 : RegIdx) (s : State) : Result :=
  runXor 4 rd rs1 rs2 s

/-- SRL (R216). -/
def execSrl (rd rs1 rs2 : RegIdx) (s : State) : Result :=
  runSrl 4 rd rs1 rs2 s

/-- SRA (R217). -/
def execSra (rd rs1 rs2 : RegIdx) (s : State) : Result :=
  runSra 4 rd rs1 rs2 s

/-- OR (R218). -/
def execOr (rd rs1 rs2 : RegIdx) (s : State) : Result :=
  runOr 4 rd rs1 rs2 s

/-- AND (R219). -/
def execAnd (rd rs1 rs2 : RegIdx) (s : State) : Result :=
  runAnd 4 rd rs1 rs2 s

/-- MUL (R220). -/
def execMul (rd rs1 rs2 : RegIdx) (s : State) : Result :=
  runMul 4 rd rs1 rs2 s

/-- MULH (R221). -/
def execMulh (rd rs1 rs2 : RegIdx) (s : State) : Result :=
  runMulh 4 rd rs1 rs2 s

/-- MULHSU (R222). -/
def execMulhsu (rd rs1 rs2 : RegIdx) (s : State) : Result :=
  runMulhsu 4 rd rs1 rs2 s

/-- MULHU (R223). -/
def execMulhu (rd rs1 rs2 : RegIdx) (s : State) : Result :=
  runMulhu 4 rd rs1 rs2 s

/-- DIV (R224). -/
def execDiv (rd rs1 rs2 : RegIdx) (s : State) : Result :=
  runDiv 4 rd rs1 rs2 s

/-- DIVU (R225). -/
def execDivu (rd rs1 rs2 : RegIdx) (s : State) : Result :=
  runDivu 4 rd rs1 rs2 s

/-- REM (R226). -/
def execRem (rd rs1 rs2 : RegIdx) (s : State) : Result :=
  runRem 4 rd rs1 rs2 s

/-- REMU (R227). -/
def execRemu (rd rs1 rs2 : RegIdx) (s : State) : Result :=
  runRemu 4 rd rs1 rs2 s

end Sys2Proof.Machine
end

