-- ==== Sys2Proof/Machine/LoadStore.lean ====
section
/-! DEFINITION. Loads and stores (42_load_store.md R170 to R183): widths and extensions of R181. -/

namespace Sys2Proof.Machine

/-! ## The variants' meanings, for a length `len` (informative downstream meanings: executed by the consumer, log entry 1) -/

/-- LB (R170). -/
def runLb (len : Nat) (rd rs1 : RegIdx) (imm : Word) (s : State) : Result :=
  s.load len 1 (fun v => v.signExtend 64) rd rs1 imm

/-- LH (R171). -/
def runLh (len : Nat) (rd rs1 : RegIdx) (imm : Word) (s : State) : Result :=
  s.load len 2 (fun v => v.signExtend 64) rd rs1 imm

/-- LW (R172). -/
def runLw (len : Nat) (rd rs1 : RegIdx) (imm : Word) (s : State) : Result :=
  s.load len 4 (fun v => v.signExtend 64) rd rs1 imm

/-- LD (R173). -/
def runLd (len : Nat) (rd rs1 : RegIdx) (imm : Word) (s : State) : Result :=
  s.load len 8 (fun v => v.zeroExtend 64) rd rs1 imm

/-- LBU (R174). -/
def runLbu (len : Nat) (rd rs1 : RegIdx) (imm : Word) (s : State) : Result :=
  s.load len 1 (fun v => v.zeroExtend 64) rd rs1 imm

/-- LHU (R175). -/
def runLhu (len : Nat) (rd rs1 : RegIdx) (imm : Word) (s : State) : Result :=
  s.load len 2 (fun v => v.zeroExtend 64) rd rs1 imm

/-- LWU (R176). -/
def runLwu (len : Nat) (rd rs1 : RegIdx) (imm : Word) (s : State) : Result :=
  s.load len 4 (fun v => v.zeroExtend 64) rd rs1 imm

/-- SB (R177). -/
def runSb (len : Nat) (rs1 rs2 : RegIdx) (imm : Word) (s : State) : Result :=
  s.store len 1 rs1 rs2 imm

/-- SH (R178). -/
def runSh (len : Nat) (rs1 rs2 : RegIdx) (imm : Word) (s : State) : Result :=
  s.store len 2 rs1 rs2 imm

/-- SW (R179). -/
def runSw (len : Nat) (rs1 rs2 : RegIdx) (imm : Word) (s : State) : Result :=
  s.store len 4 rs1 rs2 imm

/-- SD (R180). -/
def runSd (len : Nat) (rs1 rs2 : RegIdx) (imm : Word) (s : State) : Result :=
  s.store len 8 rs1 rs2 imm

/-! ## The standard forms: length 4, immediates as the carrier delivers them -/

/-- LB (R170). -/
def execLb (rd rs1 : RegIdx) (imm : BitVec 12) (s : State) : Result :=
  runLb 4 rd rs1 (simm imm) s

/-- LH (R171). -/
def execLh (rd rs1 : RegIdx) (imm : BitVec 12) (s : State) : Result :=
  runLh 4 rd rs1 (simm imm) s

/-- LW (R172). -/
def execLw (rd rs1 : RegIdx) (imm : BitVec 12) (s : State) : Result :=
  runLw 4 rd rs1 (simm imm) s

/-- LD (R173). -/
def execLd (rd rs1 : RegIdx) (imm : BitVec 12) (s : State) : Result :=
  runLd 4 rd rs1 (simm imm) s

/-- LBU (R174). -/
def execLbu (rd rs1 : RegIdx) (imm : BitVec 12) (s : State) : Result :=
  runLbu 4 rd rs1 (simm imm) s

/-- LHU (R175). -/
def execLhu (rd rs1 : RegIdx) (imm : BitVec 12) (s : State) : Result :=
  runLhu 4 rd rs1 (simm imm) s

/-- LWU (R176). -/
def execLwu (rd rs1 : RegIdx) (imm : BitVec 12) (s : State) : Result :=
  runLwu 4 rd rs1 (simm imm) s

/-- SB (R177). -/
def execSb (rs1 rs2 : RegIdx) (imm : BitVec 12) (s : State) : Result :=
  runSb 4 rs1 rs2 (simm imm) s

/-- SH (R178). -/
def execSh (rs1 rs2 : RegIdx) (imm : BitVec 12) (s : State) : Result :=
  runSh 4 rs1 rs2 (simm imm) s

/-- SW (R179). -/
def execSw (rs1 rs2 : RegIdx) (imm : BitVec 12) (s : State) : Result :=
  runSw 4 rs1 rs2 (simm imm) s

/-- SD (R180). -/
def execSd (rs1 rs2 : RegIdx) (imm : BitVec 12) (s : State) : Result :=
  runSd 4 rs1 rs2 (simm imm) s

end Sys2Proof.Machine
end

