-- ==== Sys2Proof/Machine/UpperJumpBranch.lean ====
section
/-! DEFINITION. Upper immediates, jumps and branches (41_upper_jump_branch.md R150 to R161). -/

namespace Sys2Proof.Machine

/-- The `Illegal` variant: the consumer takes illegal instruction; the bits are the all-zero parcel (40_dispatch.md R122;
60_exceptions.md R381). -/
def runIllegal (bits : Word32) (s : State) : Result := s.illegalInstruction bits

/-- ILLEGAL (R122). -/
def execIllegal (s : State) : Result := runIllegal (encode .illegal) s

/-! ## The variants' meanings, for a length `len` (informative downstream meanings: executed by the consumer, log entry 1) -/

/-- LUI (R150): `x[rd] <- sext_64(imm[31:0])`. -/
def runLui (len : Nat) (rd : RegIdx) (imm : Word) (s : State) : Result :=
  s.regResult len rd (sextU imm)

/-- AUIPC (R151): `x[rd] <- pc + sext_64(imm[31:0])`. -/
def runAuipc (len : Nat) (rd : RegIdx) (imm : Word) (s : State) : Result :=
  s.regResult len rd (s.pc + sextU imm)

/-- JAL (R152): `x[rd] <- pc + len; pc <- pc + imm`. -/
def runJal (len : Nat) (rd : RegIdx) (imm : Word) (s : State) : Result :=
  s.link len rd (s.pc + imm)

/-- JALR (R153): `t <- pc + len; pc <- (x[rs1] + imm) & ~1; x[rd] <- t`. -/
def runJalr (len : Nat) (rd rs1 : RegIdx) (imm : Word) (s : State) : Result :=
  s.link len rd ((s.reg rs1 + imm) &&& ~~~1#64)

/-- BEQ (R154). -/
def runBeq (len : Nat) (rs1 rs2 : RegIdx) (imm : Word) (s : State) : Result :=
  s.branch len (s.reg rs1 == s.reg rs2) imm

/-- BNE (R155). -/
def runBne (len : Nat) (rs1 rs2 : RegIdx) (imm : Word) (s : State) : Result :=
  s.branch len (s.reg rs1 != s.reg rs2) imm

/-- BLT (R156). -/
def runBlt (len : Nat) (rs1 rs2 : RegIdx) (imm : Word) (s : State) : Result :=
  s.branch len (ltSigned (s.reg rs1) (s.reg rs2)) imm

/-- BGE (R157). -/
def runBge (len : Nat) (rs1 rs2 : RegIdx) (imm : Word) (s : State) : Result :=
  s.branch len (!ltSigned (s.reg rs1) (s.reg rs2)) imm

/-- BLTU (R158). -/
def runBltu (len : Nat) (rs1 rs2 : RegIdx) (imm : Word) (s : State) : Result :=
  s.branch len (ltUnsigned (s.reg rs1) (s.reg rs2)) imm

/-- BGEU (R159). -/
def runBgeu (len : Nat) (rs1 rs2 : RegIdx) (imm : Word) (s : State) : Result :=
  s.branch len (!ltUnsigned (s.reg rs1) (s.reg rs2)) imm

/-! ## The standard forms: length 4, immediates as the carrier delivers them -/

/-- LUI (R150). -/
def execLui (rd : RegIdx) (imm : BitVec 20) (s : State) : Result :=
  runLui 4 rd (immUOf imm) s

/-- AUIPC (R151). -/
def execAuipc (rd : RegIdx) (imm : BitVec 20) (s : State) : Result :=
  runAuipc 4 rd (immUOf imm) s

/-- JAL (R152). -/
def execJal (rd : RegIdx) (imm : BitVec 21) (s : State) : Result :=
  runJal 4 rd (simm imm) s

/-- JALR (R153). -/
def execJalr (rd rs1 : RegIdx) (imm : BitVec 12) (s : State) : Result :=
  runJalr 4 rd rs1 (simm imm) s

/-- BEQ (R154). -/
def execBeq (rs1 rs2 : RegIdx) (imm : BitVec 13) (s : State) : Result :=
  runBeq 4 rs1 rs2 (simm imm) s

/-- BNE (R155). -/
def execBne (rs1 rs2 : RegIdx) (imm : BitVec 13) (s : State) : Result :=
  runBne 4 rs1 rs2 (simm imm) s

/-- BLT (R156). -/
def execBlt (rs1 rs2 : RegIdx) (imm : BitVec 13) (s : State) : Result :=
  runBlt 4 rs1 rs2 (simm imm) s

/-- BGE (R157). -/
def execBge (rs1 rs2 : RegIdx) (imm : BitVec 13) (s : State) : Result :=
  runBge 4 rs1 rs2 (simm imm) s

/-- BLTU (R158). -/
def execBltu (rs1 rs2 : RegIdx) (imm : BitVec 13) (s : State) : Result :=
  runBltu 4 rs1 rs2 (simm imm) s

/-- BGEU (R159). -/
def execBgeu (rs1 rs2 : RegIdx) (imm : BitVec 13) (s : State) : Result :=
  runBgeu 4 rs1 rs2 (simm imm) s

end Sys2Proof.Machine
end

