-- ==== Sys2Proof/Machine/WordOps.lean ====
section
/-! DEFINITION. 32-bit-narrowed instructions (45_word_ops.md R240 to R255): the low 32 bits, the result sign-extended. -/

namespace Sys2Proof.Machine

/-! ## The variants' meanings, for a length `len` (informative downstream meanings: executed by the consumer, log entry 1) -/

/-- ADDIW (R240). -/
def runAddiw (len : Nat) (rd rs1 : RegIdx) (imm : Word) (s : State) : Result :=
  s.regResult len rd (sext32 (low32 (s.reg rs1 + imm)))

/-- SLLIW (R241). -/
def runSlliw (len : Nat) (rd rs1 : RegIdx) (shamt : BitVec 5) (s : State) : Result :=
  s.regResult len rd (sext32 (low32 (s.reg rs1) <<< shamt.toNat))

/-- SRLIW (R242). -/
def runSrliw (len : Nat) (rd rs1 : RegIdx) (shamt : BitVec 5) (s : State) : Result :=
  s.regResult len rd (sext32 (low32 (s.reg rs1) >>> shamt.toNat))

/-- SRAIW (R243). -/
def runSraiw (len : Nat) (rd rs1 : RegIdx) (shamt : BitVec 5) (s : State) : Result :=
  s.regResult len rd (sext32 ((low32 (s.reg rs1)).sshiftRight shamt.toNat))

/-- ADDW (R244). -/
def runAddw (len : Nat) (rd rs1 rs2 : RegIdx) (s : State) : Result :=
  s.regResult len rd (sext32 (low32 (s.reg rs1) + low32 (s.reg rs2)))

/-- SUBW (R245). -/
def runSubw (len : Nat) (rd rs1 rs2 : RegIdx) (s : State) : Result :=
  s.regResult len rd (sext32 (low32 (s.reg rs1) - low32 (s.reg rs2)))

/-- SLLW (R246). -/
def runSllw (len : Nat) (rd rs1 rs2 : RegIdx) (s : State) : Result :=
  s.regResult len rd (sext32 (low32 (s.reg rs1) <<< shiftAmount32 (s.reg rs2)))

/-- SRLW (R247). -/
def runSrlw (len : Nat) (rd rs1 rs2 : RegIdx) (s : State) : Result :=
  s.regResult len rd (sext32 (low32 (s.reg rs1) >>> shiftAmount32 (s.reg rs2)))

/-- SRAW (R248). -/
def runSraw (len : Nat) (rd rs1 rs2 : RegIdx) (s : State) : Result :=
  s.regResult len rd (sext32 ((low32 (s.reg rs1)).sshiftRight (shiftAmount32 (s.reg rs2))))

/-- MULW (R249). -/
def runMulw (len : Nat) (rd rs1 rs2 : RegIdx) (s : State) : Result :=
  s.regResult len rd (sext32 (low32 (s.reg rs1) * low32 (s.reg rs2)))

/-- DIVW (R250). -/
def runDivw (len : Nat) (rd rs1 rs2 : RegIdx) (s : State) : Result :=
  s.regResult len rd (sext32 (divSigned (low32 (s.reg rs1)) (low32 (s.reg rs2))))

/-- DIVUW (R251). -/
def runDivuw (len : Nat) (rd rs1 rs2 : RegIdx) (s : State) : Result :=
  s.regResult len rd (sext32 (divUnsigned (low32 (s.reg rs1)) (low32 (s.reg rs2))))

/-- REMW (R252). -/
def runRemw (len : Nat) (rd rs1 rs2 : RegIdx) (s : State) : Result :=
  s.regResult len rd (sext32 (remSigned (low32 (s.reg rs1)) (low32 (s.reg rs2))))

/-- REMUW (R253). -/
def runRemuw (len : Nat) (rd rs1 rs2 : RegIdx) (s : State) : Result :=
  s.regResult len rd (sext32 (remUnsigned (low32 (s.reg rs1)) (low32 (s.reg rs2))))

/-! ## The standard forms: length 4, immediates as the carrier delivers them -/

/-- ADDIW (R240). -/
def execAddiw (rd rs1 : RegIdx) (imm : BitVec 12) (s : State) : Result :=
  runAddiw 4 rd rs1 (simm imm) s

/-- SLLIW (R241). -/
def execSlliw (rd rs1 : RegIdx) (shamt : BitVec 5) (s : State) : Result :=
  runSlliw 4 rd rs1 shamt s

/-- SRLIW (R242). -/
def execSrliw (rd rs1 : RegIdx) (shamt : BitVec 5) (s : State) : Result :=
  runSrliw 4 rd rs1 shamt s

/-- SRAIW (R243). -/
def execSraiw (rd rs1 : RegIdx) (shamt : BitVec 5) (s : State) : Result :=
  runSraiw 4 rd rs1 shamt s

/-- ADDW (R244). -/
def execAddw (rd rs1 rs2 : RegIdx) (s : State) : Result :=
  runAddw 4 rd rs1 rs2 s

/-- SUBW (R245). -/
def execSubw (rd rs1 rs2 : RegIdx) (s : State) : Result :=
  runSubw 4 rd rs1 rs2 s

/-- SLLW (R246). -/
def execSllw (rd rs1 rs2 : RegIdx) (s : State) : Result :=
  runSllw 4 rd rs1 rs2 s

/-- SRLW (R247). -/
def execSrlw (rd rs1 rs2 : RegIdx) (s : State) : Result :=
  runSrlw 4 rd rs1 rs2 s

/-- SRAW (R248). -/
def execSraw (rd rs1 rs2 : RegIdx) (s : State) : Result :=
  runSraw 4 rd rs1 rs2 s

/-- MULW (R249). -/
def execMulw (rd rs1 rs2 : RegIdx) (s : State) : Result :=
  runMulw 4 rd rs1 rs2 s

/-- DIVW (R250). -/
def execDivw (rd rs1 rs2 : RegIdx) (s : State) : Result :=
  runDivw 4 rd rs1 rs2 s

/-- DIVUW (R251). -/
def execDivuw (rd rs1 rs2 : RegIdx) (s : State) : Result :=
  runDivuw 4 rd rs1 rs2 s

/-- REMW (R252). -/
def execRemw (rd rs1 rs2 : RegIdx) (s : State) : Result :=
  runRemw 4 rd rs1 rs2 s

/-- REMUW (R253). -/
def execRemuw (rd rs1 rs2 : RegIdx) (s : State) : Result :=
  runRemuw 4 rd rs1 rs2 s

end Sys2Proof.Machine
end

