-- ==== Sys2Proof/Machine/Compressed.lean ====
section
/-! DEFINITION. The compressed forms: each runs the variant it expands to, with length 2 (48_compressed_expander.md R308, R310
to R342). C.LW, C.LD, C.SW and C.SD decode on both compressed paths; the other legal forms on the EXPAND path only
(47_compressed_decoder.md R290); the floating-point forms on neither (48_compressed_expander.md R307). -/

namespace Sys2Proof.Machine

/-- C.ADDI4SPN (R310). -/
def execCAddi4spn (rdp : PopIdx) (nzuimm : BitVec 10) (s : State) : Result :=
  s.onExpandPath (encode (.cAddi4spn rdp nzuimm)) (runAddi 2 (popular rdp) sp (uimm nzuimm) s)

/-- C.LW (R311). -/
def execCLw (rdp rs1p : PopIdx) (off : BitVec 7) (s : State) : Result :=
  runLw 2 (popular rdp) (popular rs1p) (uimm off) s

/-- C.LD (R312). -/
def execCLd (rdp rs1p : PopIdx) (off : BitVec 8) (s : State) : Result :=
  runLd 2 (popular rdp) (popular rs1p) (uimm off) s

/-- C.SW (R313). -/
def execCSw (rs1p rs2p : PopIdx) (off : BitVec 7) (s : State) : Result :=
  runSw 2 (popular rs1p) (popular rs2p) (uimm off) s

/-- C.SD (R314). -/
def execCSd (rs1p rs2p : PopIdx) (off : BitVec 8) (s : State) : Result :=
  runSd 2 (popular rs1p) (popular rs2p) (uimm off) s

/-- C.NOP (R315). -/
def execCNop (s : State) : Result :=
  s.onExpandPath (encode .cNop) (runAddi 2 0 0 0 s)

/-- C.ADDI (R316). -/
def execCAddi (rd : RegIdx) (imm : BitVec 6) (s : State) : Result :=
  s.onExpandPath (encode (.cAddi rd imm)) (runAddi 2 rd rd (simm imm) s)

/-- C.ADDIW (R317). -/
def execCAddiw (rd : RegIdx) (imm : BitVec 6) (s : State) : Result :=
  s.onExpandPath (encode (.cAddiw rd imm)) (runAddiw 2 rd rd (simm imm) s)

/-- C.LI (R318). -/
def execCLi (rd : RegIdx) (imm : BitVec 6) (s : State) : Result :=
  s.onExpandPath (encode (.cLi rd imm)) (runAddi 2 rd 0 (simm imm) s)

/-- C.ADDI16SP (R319). -/
def execCAddi16sp (nzimm : BitVec 10) (s : State) : Result :=
  s.onExpandPath (encode (.cAddi16sp nzimm)) (runAddi 2 sp sp (simm nzimm) s)

/-- C.LUI (R320). -/
def execCLui (rd : RegIdx) (imm : BitVec 6) (s : State) : Result :=
  s.onExpandPath (encode (.cLui rd imm)) (runLui 2 rd (immUOf (imm.signExtend 20)) s)

/-- C.SRLI (R321). -/
def execCSrli (rdp : PopIdx) (shamt : BitVec 6) (s : State) : Result :=
  s.onExpandPath (encode (.cSrli rdp shamt)) (runSrli 2 (popular rdp) (popular rdp) shamt s)

/-- C.SRAI (R322). -/
def execCSrai (rdp : PopIdx) (shamt : BitVec 6) (s : State) : Result :=
  s.onExpandPath (encode (.cSrai rdp shamt)) (runSrai 2 (popular rdp) (popular rdp) shamt s)

/-- C.ANDI (R323). -/
def execCAndi (rdp : PopIdx) (imm : BitVec 6) (s : State) : Result :=
  s.onExpandPath (encode (.cAndi rdp imm)) (runAndi 2 (popular rdp) (popular rdp) (simm imm) s)

/-- C.SUB (R324). -/
def execCSub (rdp rs2p : PopIdx) (s : State) : Result :=
  s.onExpandPath (encode (.cSub rdp rs2p)) (runSub 2 (popular rdp) (popular rdp) (popular rs2p) s)

/-- C.XOR (R325). -/
def execCXor (rdp rs2p : PopIdx) (s : State) : Result :=
  s.onExpandPath (encode (.cXor rdp rs2p)) (runXor 2 (popular rdp) (popular rdp) (popular rs2p) s)

/-- C.OR (R326). -/
def execCOr (rdp rs2p : PopIdx) (s : State) : Result :=
  s.onExpandPath (encode (.cOr rdp rs2p)) (runOr 2 (popular rdp) (popular rdp) (popular rs2p) s)

/-- C.AND (R327). -/
def execCAnd (rdp rs2p : PopIdx) (s : State) : Result :=
  s.onExpandPath (encode (.cAnd rdp rs2p)) (runAnd 2 (popular rdp) (popular rdp) (popular rs2p) s)

/-- C.SUBW (R328). -/
def execCSubw (rdp rs2p : PopIdx) (s : State) : Result :=
  s.onExpandPath (encode (.cSubw rdp rs2p)) (runSubw 2 (popular rdp) (popular rdp) (popular rs2p) s)

/-- C.ADDW (R329). -/
def execCAddw (rdp rs2p : PopIdx) (s : State) : Result :=
  s.onExpandPath (encode (.cAddw rdp rs2p)) (runAddw 2 (popular rdp) (popular rdp) (popular rs2p) s)

/-- C.J (R330). -/
def execCJ (off : BitVec 12) (s : State) : Result :=
  s.onExpandPath (encode (.cJ off)) (runJal 2 0 (simm off) s)

/-- C.BEQZ (R331). -/
def execCBeqz (rs1p : PopIdx) (off : BitVec 9) (s : State) : Result :=
  s.onExpandPath (encode (.cBeqz rs1p off)) (runBeq 2 (popular rs1p) 0 (simm off) s)

/-- C.BNEZ (R332). -/
def execCBnez (rs1p : PopIdx) (off : BitVec 9) (s : State) : Result :=
  s.onExpandPath (encode (.cBnez rs1p off)) (runBne 2 (popular rs1p) 0 (simm off) s)

/-- C.SLLI (R333). -/
def execCSlli (rd : RegIdx) (shamt : BitVec 6) (s : State) : Result :=
  s.onExpandPath (encode (.cSlli rd shamt)) (runSlli 2 rd rd shamt s)

/-- C.LWSP (R334). -/
def execCLwsp (rd : RegIdx) (off : BitVec 8) (s : State) : Result :=
  s.onExpandPath (encode (.cLwsp rd off)) (runLw 2 rd sp (uimm off) s)

/-- C.LDSP (R335). -/
def execCLdsp (rd : RegIdx) (off : BitVec 9) (s : State) : Result :=
  s.onExpandPath (encode (.cLdsp rd off)) (runLd 2 rd sp (uimm off) s)

/-- C.JR (R336). -/
def execCJr (rs1 : RegIdx) (s : State) : Result :=
  s.onExpandPath (encode (.cJr rs1)) (runJalr 2 0 rs1 0 s)

/-- C.MV (R337). -/
def execCMv (rd rs2 : RegIdx) (s : State) : Result :=
  s.onExpandPath (encode (.cMv rd rs2)) (runAdd 2 rd 0 rs2 s)

/-- C.EBREAK (R338). -/
def execCEbreak (s : State) : Result :=
  s.onExpandPath (encode .cEbreak) (runEbreak s)

/-- C.JALR (R339). -/
def execCJalr (rs1 : RegIdx) (s : State) : Result :=
  s.onExpandPath (encode (.cJalr rs1)) (runJalr 2 ra rs1 0 s)

/-- C.ADD (R340). -/
def execCAdd (rd rs2 : RegIdx) (s : State) : Result :=
  s.onExpandPath (encode (.cAdd rd rs2)) (runAdd 2 rd rd rs2 s)

/-- C.SWSP (R341). -/
def execCSwsp (rs2 : RegIdx) (off : BitVec 8) (s : State) : Result :=
  s.onExpandPath (encode (.cSwsp rs2 off)) (runSw 2 sp rs2 (uimm off) s)

/-- C.SDSP (R342). -/
def execCSdsp (rs2 : RegIdx) (off : BitVec 9) (s : State) : Result :=
  s.onExpandPath (encode (.cSdsp rs2 off)) (runSd 2 sp rs2 (uimm off) s)

/-- C.FLD (R307). -/
def execCFld (rdp rs1p : PopIdx) (hi : BitVec 3) (lo : BitVec 2) (s : State) : Result :=
  s.illegalInstruction (encode (.cFld rdp rs1p hi lo))

/-- C.FSD (R307). -/
def execCFsd (rs1p rs2p : PopIdx) (hi : BitVec 3) (lo : BitVec 2) (s : State) : Result :=
  s.illegalInstruction (encode (.cFsd rs1p rs2p hi lo))

/-- C.FLDSP (R307). -/
def execCFldsp (rd : RegIdx) (hi : BitVec 1) (lo : BitVec 5) (s : State) : Result :=
  s.illegalInstruction (encode (.cFldsp rd hi lo))

/-- C.FSDSP (R307). -/
def execCFsdsp (rs2 : RegIdx) (hi : BitVec 6) (s : State) : Result :=
  s.illegalInstruction (encode (.cFsdsp rs2 hi))

end Sys2Proof.Machine
end

