-- ==== Sys2Proof/Machine/Step.lean ====
section
/-! DEFINITION. One step: fetch at the pc, decode, execute; and how the host places an instruction for it. -/

namespace Sys2Proof.Machine

/-- One step. An odd pc takes its exception (20_memory.md R44); a fetch that decodes to no form takes illegal instruction
(60_exceptions.md R381); any other fetch runs its form. -/
def step (s : State) : Host.Outcome State Fault Refusal :=
  if s.pcMisaligned then s.tick.exception .instrMisaligned
  else
    match decodeInstr s.fetchWord with
    | .ok i => exec i s.tick
    | .error e => s.tick.undecodable e s.fetchWord

/-- `s` with the opcode-table word stored at the pc, and nothing older left for a fetch to see; an odd pc, which could not
fetch, is made even. -/
def State.withFetchWord (s : State) (nbits w : Nat) : State :=
  { s with
    pc := s.pc &&& ~~~1#64
    mem := s.mem.write (s.pc &&& ~~~1#64) 4 (tableWord nbits w)
    oldMems := [] }

end Sys2Proof.Machine
end

