-- ==== Sys2Proof/Machine/Execute.lean ====
section
/-! DEFINITION. The consumer seen from the block's side: what it does with each `Instruction` variant, and one step that
fetches, runs the block's `decode` (40_dispatch.md R121), and executes the outcome with its length. It is the same machine as
Step.lean's, written over variants and carriers instead of forms. -/

namespace Sys2Proof.Machine

/-- Executing a decoded variant of length `len` (R141: one arm per variant). -/
def execute (v : Instruction) (len : Nat) (s : State) : Result :=
  match v with
  | .illegal c => runIllegal c.word s
  | .lui c => runLui len c.rd c.imm s
  | .auipc c => runAuipc len c.rd c.imm s
  | .jal c => runJal len c.rd c.imm s
  | .jalr c => runJalr len c.rd c.rs1 c.imm s
  | .beq c => runBeq len c.rs1 c.rs2 c.imm s
  | .bne c => runBne len c.rs1 c.rs2 c.imm s
  | .blt c => runBlt len c.rs1 c.rs2 c.imm s
  | .bge c => runBge len c.rs1 c.rs2 c.imm s
  | .bltu c => runBltu len c.rs1 c.rs2 c.imm s
  | .bgeu c => runBgeu len c.rs1 c.rs2 c.imm s
  | .lb c => runLb len c.rd c.rs1 c.imm s
  | .lh c => runLh len c.rd c.rs1 c.imm s
  | .lw c => runLw len c.rd c.rs1 c.imm s
  | .ld c => runLd len c.rd c.rs1 c.imm s
  | .lbu c => runLbu len c.rd c.rs1 c.imm s
  | .lhu c => runLhu len c.rd c.rs1 c.imm s
  | .lwu c => runLwu len c.rd c.rs1 c.imm s
  | .sb c => runSb len c.rs1 c.rs2 c.imm s
  | .sh c => runSh len c.rs1 c.rs2 c.imm s
  | .sw c => runSw len c.rs1 c.rs2 c.imm s
  | .sd c => runSd len c.rs1 c.rs2 c.imm s
  | .addi c => runAddi len c.rd c.rs1 c.imm s
  | .slti c => runSlti len c.rd c.rs1 c.imm s
  | .sltiu c => runSltiu len c.rd c.rs1 c.imm s
  | .xori c => runXori len c.rd c.rs1 c.imm s
  | .ori c => runOri len c.rd c.rs1 c.imm s
  | .andi c => runAndi len c.rd c.rs1 c.imm s
  | .slli c => runSlli len c.rd c.rs1 c.shamt s
  | .srli c => runSrli len c.rd c.rs1 c.shamt s
  | .srai c => runSrai len c.rd c.rs1 c.shamt s
  | .add c => runAdd len c.rd c.rs1 c.rs2 s
  | .sub c => runSub len c.rd c.rs1 c.rs2 s
  | .sll c => runSll len c.rd c.rs1 c.rs2 s
  | .slt c => runSlt len c.rd c.rs1 c.rs2 s
  | .sltu c => runSltu len c.rd c.rs1 c.rs2 s
  | .xor c => runXor len c.rd c.rs1 c.rs2 s
  | .srl c => runSrl len c.rd c.rs1 c.rs2 s
  | .sra c => runSra len c.rd c.rs1 c.rs2 s
  | .or c => runOr len c.rd c.rs1 c.rs2 s
  | .and c => runAnd len c.rd c.rs1 c.rs2 s
  | .mul c => runMul len c.rd c.rs1 c.rs2 s
  | .mulh c => runMulh len c.rd c.rs1 c.rs2 s
  | .mulhsu c => runMulhsu len c.rd c.rs1 c.rs2 s
  | .mulhu c => runMulhu len c.rd c.rs1 c.rs2 s
  | .div c => runDiv len c.rd c.rs1 c.rs2 s
  | .divu c => runDivu len c.rd c.rs1 c.rs2 s
  | .rem c => runRem len c.rd c.rs1 c.rs2 s
  | .remu c => runRemu len c.rd c.rs1 c.rs2 s
  | .addiw c => runAddiw len c.rd c.rs1 c.imm s
  | .slliw c => runSlliw len c.rd c.rs1 c.shamt s
  | .srliw c => runSrliw len c.rd c.rs1 c.shamt s
  | .sraiw c => runSraiw len c.rd c.rs1 c.shamt s
  | .addw c => runAddw len c.rd c.rs1 c.rs2 s
  | .subw c => runSubw len c.rd c.rs1 c.rs2 s
  | .sllw c => runSllw len c.rd c.rs1 c.rs2 s
  | .srlw c => runSrlw len c.rd c.rs1 c.rs2 s
  | .sraw c => runSraw len c.rd c.rs1 c.rs2 s
  | .mulw c => runMulw len c.rd c.rs1 c.rs2 s
  | .divw c => runDivw len c.rd c.rs1 c.rs2 s
  | .divuw c => runDivuw len c.rd c.rs1 c.rs2 s
  | .remw c => runRemw len c.rd c.rs1 c.rs2 s
  | .remuw c => runRemuw len c.rd c.rs1 c.rs2 s
  | .fence _ => runFence len s
  | .fenceI _ => runFenceI len s
  | .ecall _ => runEcall s
  | .ebreak _ => runEbreak s
  | .csrrw c => runCsrrw len c.word c.rd c.rs1 c.csr s
  | .csrrs c => runCsrrs len c.word c.rd c.rs1 c.csr s
  | .csrrc c => runCsrrc len c.word c.rd c.rs1 c.csr s
  | .csrrwi c => runCsrrwi len c.word c.rd c.zimm c.csr s
  | .csrrsi c => runCsrrsi len c.word c.rd c.zimm c.csr s
  | .csrrci c => runCsrrci len c.word c.rd c.zimm c.csr s

/-- What the consumer does with the block's outcome for a fetch (60_exceptions.md R381). -/
def consume (fetch : Word32) (out : DecodeOutcome × Nat) (s : State) : Result :=
  match out with
  | (.ok v, len) => execute v len s
  | (.error e, _) => s.undecodable e fetch

/-- Fetch, the block's `decode` with the instance's `COMPRESSED_PATH`, and the consumer. -/
def blockStep (s : State) : Result :=
  if s.pcMisaligned then s.tick.exception .instrMisaligned
  else consume s.fetchWord (decode s.fetchWord s.params.compressedPath) s.tick

end Sys2Proof.Machine
end

