-- ==== Sys2Proof/Machine/Pseudo.lean ====
section
/-! DEFINITION. The pseudo-instructions of 30_encoding.md R111: spellings of decoded words. The block never sees one, only the
words of its expansion. -/

namespace Sys2Proof.Machine

/-- The standard assembler pseudo-instructions of R111; an offset of `call`, `tail` and `la` is 32 bits wide, also where R111
gives no expansion (log entry 21). -/
inductive Pseudo where
  | nop
  | li (rd : RegIdx) (imm : BitVec 12)
  | mv (rd rs : RegIdx)
  | not (rd rs : RegIdx)
  | neg (rd rs : RegIdx)
  | negw (rd rs : RegIdx)
  | sextW (rd rs : RegIdx)
  | seqz (rd rs : RegIdx)
  | snez (rd rs : RegIdx)
  | sltz (rd rs : RegIdx)
  | sgtz (rd rs : RegIdx)
  | beqz (rs : RegIdx) (off : BitVec 13)
  | bnez (rs : RegIdx) (off : BitVec 13)
  | blez (rs : RegIdx) (off : BitVec 13)
  | bgez (rs : RegIdx) (off : BitVec 13)
  | bltz (rs : RegIdx) (off : BitVec 13)
  | bgtz (rs : RegIdx) (off : BitVec 13)
  | bgt (rs rt : RegIdx) (off : BitVec 13)
  | ble (rs rt : RegIdx) (off : BitVec 13)
  | bgtu (rs rt : RegIdx) (off : BitVec 13)
  | bleu (rs rt : RegIdx) (off : BitVec 13)
  | j (off : BitVec 21)
  | jal (off : BitVec 21)
  | jr (rs : RegIdx)
  | jalr (rs : RegIdx)
  | ret
  | call (off : BitVec 32)
  | tail (off : BitVec 32)
  | la (rd : RegIdx) (off : BitVec 32)
  | fence
  | csrr (rd : RegIdx) (csr : CsrIdx)
  | csrw (csr : CsrIdx) (rs : RegIdx)
  | csrs (csr : CsrIdx) (rs : RegIdx)
  | csrc (csr : CsrIdx) (rs : RegIdx)
  | csrwi (csr : CsrIdx) (z : BitVec 5)
  | csrsi (csr : CsrIdx) (z : BitVec 5)
  | csrci (csr : CsrIdx) (z : BitVec 5)
  | rdcycle (rd : RegIdx)
  | rdtime (rd : RegIdx)
  | rdinstret (rd : RegIdx)
  deriving DecidableEq, Repr

/-- The lower part of a 32-bit offset, which `addi` and `jalr` sign-extend. -/
def lo12 (off : BitVec 32) : BitVec 12 := off.extractLsb' 0 12

/-- The upper part that makes `off = sext(hi20 << 12) + sext(lo12)` for every offset below 0x7FFFF800 (R111). No parts make an
offset from 0x7FFFF800 to 0x7FFFFFFF, for which the spec gives no expansion: there the parts make `off - 2^32`, DESIGN CHOICE
(log entry 21), unsafe. -/
def hi20 (off : BitVec 32) : BitVec 20 := (off + 0x800#32).extractLsb' 12 20

/-- The expansion column of R111. -/
def Pseudo.expansion : Pseudo → List Instr
  | .nop => [.addi 0 0 0]
  | .li rd imm => [.addi rd 0 imm]
  | .mv rd rs => [.addi rd rs 0]
  | .not rd rs => [.xori rd rs 0xFFF]
  | .neg rd rs => [.sub rd 0 rs]
  | .negw rd rs => [.subw rd 0 rs]
  | .sextW rd rs => [.addiw rd rs 0]
  | .seqz rd rs => [.sltiu rd rs 1]
  | .snez rd rs => [.sltu rd 0 rs]
  | .sltz rd rs => [.slt rd rs 0]
  | .sgtz rd rs => [.slt rd 0 rs]
  | .beqz rs off => [.beq rs 0 off]
  | .bnez rs off => [.bne rs 0 off]
  | .blez rs off => [.bge 0 rs off]
  | .bgez rs off => [.bge rs 0 off]
  | .bltz rs off => [.blt rs 0 off]
  | .bgtz rs off => [.blt 0 rs off]
  | .bgt rs rt off => [.blt rt rs off]
  | .ble rs rt off => [.bge rt rs off]
  | .bgtu rs rt off => [.bltu rt rs off]
  | .bleu rs rt off => [.bgeu rt rs off]
  | .j off => [.jal 0 off]
  | .jal off => [.jal 1 off]
  | .jr rs => [.jalr 0 rs 0]
  | .jalr rs => [.jalr 1 rs 0]
  | .ret => [.jalr 0 1 0]
  | .call off => [.auipc 1 (hi20 off), .jalr 1 1 (lo12 off)]
  | .tail off => [.auipc 6 (hi20 off), .jalr 0 6 (lo12 off)]
  | .la rd off => [.auipc rd (hi20 off), .addi rd rd (lo12 off)]
  | .fence => [.fence 0 0 0 0b1111 0b1111]
  | .csrr rd csr => [.csrrs rd 0 csr]
  | .csrw csr rs => [.csrrw 0 rs csr]
  | .csrs csr rs => [.csrrs 0 rs csr]
  | .csrc csr rs => [.csrrc 0 rs csr]
  | .csrwi csr z => [.csrrwi 0 z csr]
  | .csrsi csr z => [.csrrsi 0 z csr]
  | .csrci csr z => [.csrrci 0 z csr]
  | .rdcycle rd => [.csrrs rd 0 0xC00]
  | .rdtime rd => [.csrrs rd 0 0xC01]
  | .rdinstret rd => [.csrrs rd 0 0xC02]

end Sys2Proof.Machine
end

