-- ==== Sys2Proof/Machine/Transcript.lean ====
section
/-! DEFINITION. What a host transcription layer reads from a decoded instruction: a total, exhaustive mapping from every
variant to a record (40_dispatch.md R140, R141), with the register roles of 10_state.md R25. -/

namespace Sys2Proof.Machine

/-- A (register-class, register-number) pair of R140: the class is the constructor. A CSR stands among the pairs because
10_state.md R25 gives it as read and written: DESIGN CHOICE (log entry 17), since 91_not_in_source.md N16 leaves the lists
unspecified. -/
inductive HostReg where
  /-- An integer register (10_state.md R22). -/
  | integer (number : RegIdx)
  /-- A control and status register (10_state.md R28). -/
  | csr (number : CsrIdx)
  deriving DecidableEq, Repr

/-- The host-visible record of R140. Which variants fill an optional field, and the spelling of the name, are the model's
choice: DESIGN CHOICE (log entry 18). -/
structure HostRecord where
  name   : String
  imm    : Option Word
  zimm   : Option (BitVec 5)
  shamt  : Option (BitVec 6)
  fence  : Option (BitVec 4 × BitVec 4)
  reads  : List HostReg
  writes : List HostReg
  deriving DecidableEq, Repr

def HostRecord.empty (name : String) : HostRecord where
  name := name
  imm := none
  zimm := none
  shamt := none
  fence := none
  reads := []
  writes := []

def CarrierR.record (c : CarrierR) (name : String) : HostRecord :=
  { HostRecord.empty name with reads := [.integer c.rs1, .integer c.rs2], writes := [.integer c.rd] }
def CarrierI.record (c : CarrierI) (name : String) : HostRecord :=
  { HostRecord.empty name with imm := some c.imm, reads := [.integer c.rs1], writes := [.integer c.rd] }
/-- FENCE.I, ECALL, EBREAK and `Illegal` read and write no register (10_state.md R25). Their signed immediate is filled with
the I carrier's, which they have no use for: DESIGN CHOICE (log entry 18). -/
def CarrierI.plainRecord (c : CarrierI) (name : String) : HostRecord :=
  { HostRecord.empty name with imm := some c.imm }
def CarrierS.record (c : CarrierS) (name : String) : HostRecord :=
  { HostRecord.empty name with imm := some c.imm, reads := [.integer c.rs1, .integer c.rs2] }
def CarrierB.record (c : CarrierB) (name : String) : HostRecord :=
  { HostRecord.empty name with imm := some c.imm, reads := [.integer c.rs1, .integer c.rs2] }
/-- LUI and AUIPC fill the signed immediate with imm_U, which 30_encoding.md R74 gives unsigned: DESIGN CHOICE (log entry
18). -/
def CarrierU.record (c : CarrierU) (name : String) : HostRecord :=
  { HostRecord.empty name with imm := some c.imm, writes := [.integer c.rd] }
def CarrierJ.record (c : CarrierJ) (name : String) : HostRecord :=
  { HostRecord.empty name with imm := some c.imm, writes := [.integer c.rd] }
def CarrierShift64.record (c : CarrierShift64) (name : String) : HostRecord :=
  { HostRecord.empty name with shamt := some c.shamt, reads := [.integer c.rs1], writes := [.integer c.rd] }
def CarrierShift32.record (c : CarrierShift32) (name : String) : HostRecord :=
  { HostRecord.empty name with
    shamt := some (c.shamt.zeroExtend 6), reads := [.integer c.rs1], writes := [.integer c.rd] }
def CarrierFence.record (c : CarrierFence) (name : String) : HostRecord :=
  { HostRecord.empty name with fence := some (c.pred, c.succ) }
/-- CSRRW, CSRRS and CSRRC read rs1 and the CSR, and write rd and the CSR (10_state.md R25). The CSR stands after the integer
register and at every operand, x0 included: DESIGN CHOICE (log entry 17). -/
def CarrierCsr.record (c : CarrierCsr) (name : String) : HostRecord :=
  { HostRecord.empty name with reads := [.integer c.rs1, .csr c.csr], writes := [.integer c.rd, .csr c.csr] }
/-- CSRRWI, CSRRSI and CSRRCI read the CSR, and write rd and the CSR (10_state.md R25; log entry 17). -/
def CarrierCsrImm.record (c : CarrierCsrImm) (name : String) : HostRecord :=
  { HostRecord.empty name with
    zimm := some c.zimm, reads := [.csr c.csr], writes := [.integer c.rd, .csr c.csr] }

/-- The record of every variant, `Illegal` included (R140), its roles by R25. -/
def Instruction.record : Instruction → HostRecord
  | .illegal c => c.plainRecord "ILLEGAL"
  | .lui c => c.record "LUI"
  | .auipc c => c.record "AUIPC"
  | .jal c => c.record "JAL"
  | .jalr c => c.record "JALR"
  | .beq c => c.record "BEQ"
  | .bne c => c.record "BNE"
  | .blt c => c.record "BLT"
  | .bge c => c.record "BGE"
  | .bltu c => c.record "BLTU"
  | .bgeu c => c.record "BGEU"
  | .lb c => c.record "LB"
  | .lh c => c.record "LH"
  | .lw c => c.record "LW"
  | .ld c => c.record "LD"
  | .lbu c => c.record "LBU"
  | .lhu c => c.record "LHU"
  | .lwu c => c.record "LWU"
  | .sb c => c.record "SB"
  | .sh c => c.record "SH"
  | .sw c => c.record "SW"
  | .sd c => c.record "SD"
  | .addi c => c.record "ADDI"
  | .slti c => c.record "SLTI"
  | .sltiu c => c.record "SLTIU"
  | .xori c => c.record "XORI"
  | .ori c => c.record "ORI"
  | .andi c => c.record "ANDI"
  | .slli c => c.record "SLLI"
  | .srli c => c.record "SRLI"
  | .srai c => c.record "SRAI"
  | .add c => c.record "ADD"
  | .sub c => c.record "SUB"
  | .sll c => c.record "SLL"
  | .slt c => c.record "SLT"
  | .sltu c => c.record "SLTU"
  | .xor c => c.record "XOR"
  | .srl c => c.record "SRL"
  | .sra c => c.record "SRA"
  | .or c => c.record "OR"
  | .and c => c.record "AND"
  | .mul c => c.record "MUL"
  | .mulh c => c.record "MULH"
  | .mulhsu c => c.record "MULHSU"
  | .mulhu c => c.record "MULHU"
  | .div c => c.record "DIV"
  | .divu c => c.record "DIVU"
  | .rem c => c.record "REM"
  | .remu c => c.record "REMU"
  | .addiw c => c.record "ADDIW"
  | .slliw c => c.record "SLLIW"
  | .srliw c => c.record "SRLIW"
  | .sraiw c => c.record "SRAIW"
  | .addw c => c.record "ADDW"
  | .subw c => c.record "SUBW"
  | .sllw c => c.record "SLLW"
  | .srlw c => c.record "SRLW"
  | .sraw c => c.record "SRAW"
  | .mulw c => c.record "MULW"
  | .divw c => c.record "DIVW"
  | .divuw c => c.record "DIVUW"
  | .remw c => c.record "REMW"
  | .remuw c => c.record "REMUW"
  | .fence c => c.record "FENCE"
  | .fenceI c => c.plainRecord "FENCE.I"
  | .ecall c => c.plainRecord "ECALL"
  | .ebreak c => c.plainRecord "EBREAK"
  | .csrrw c => c.record "CSRRW"
  | .csrrs c => c.record "CSRRS"
  | .csrrc c => c.record "CSRRC"
  | .csrrwi c => c.record "CSRRWI"
  | .csrrsi c => c.record "CSRRSI"
  | .csrrci c => c.record "CSRRCI"

end Sys2Proof.Machine
end

