-- ==== Sys2Proof/Safety.lean ====
section
/-! DEFINITION. What the statements speak in: the invariant of the machine, the answer of a meaning that completes, and the
effects an instruction can have, each with its whole frame. -/

namespace Sys2Proof.Machine

/-! ## The invariant -/

/-- The CSRs that have a field of their own, by number; `csrs` never lists one. -/
def ownCsrs : List Nat := [0x300, 0x305, 0x341, 0x342, 0x343]

/-- The invariant every step keeps: an even pc (20_memory.md R43, R44), memory and the older memories in canonical form, and
the sparse CSRs canonical, none of them read-only (46_fence_system_csr.md R270) and none with a field of its own. -/
def State.inv (s : State) : Bool :=
  s.pc.extractLsb' 0 1 == 0#1 && s.mem.wf && s.oldMems.all Memory.wf && Cells.wf 0#64 0xC00 s.csrs &&
    s.csrs.all (fun c => !ownCsrs.contains c.1)

/-! ## Answers -/

/-- The meaning answers a next state, and that state is as `P` says. -/
def Completes (r : Result) (P : State → Prop) : Prop := ∃ t, r = .next t ∧ P t

/-! ## Frames -/

/-- Every register reads as before. -/
def SameRegs (s t : State) : Prop := ∀ r, t.reg r = s.reg r

/-- Memory is as before: every byte reads as before, and a fetch may still see the same older memories. -/
def SameMemory (s t : State) : Prop :=
  t.mem = s.mem ∧ t.oldMems = s.oldMems ∧ ∀ a, t.mem.readByte a = s.mem.readByte a

/-- The trap CSRs, the other CSRs and the mode are as before. -/
def SameSystem (s t : State) : Prop :=
  t.mode = s.mode ∧ t.mstatus = s.mstatus ∧ t.mtvec = s.mtvec ∧ t.mepc = s.mepc ∧ t.mcause = s.mcause ∧
    t.mtval = s.mtval ∧ t.csrs = s.csrs

/-- The model's own fields are as before: the parameters and the free-value counter. -/
def SameModel (s t : State) : Prop := t.params = s.params ∧ t.draws = s.draws

/-! ## Effects -/

/-- x[rd] becomes v (nothing, for rd = x0), the pc becomes `pc`, and nothing else changes. -/
def RegEffect (s t : State) (rd : RegIdx) (v pc : Word) : Prop :=
  (∀ r, t.reg r = if r = 0 then 0 else if r = rd then v else s.reg r) ∧ t.pc = pc ∧
    SameMemory s t ∧ SameSystem s t ∧ SameModel s t

/-- The pc becomes `pc`, and nothing else changes. -/
def PcEffect (s t : State) (pc : Word) : Prop :=
  t.pc = pc ∧ SameRegs s t ∧ SameMemory s t ∧ SameSystem s t ∧ SameModel s t

/-- The n bytes from address a on become those of v, lowest first; every other byte reads as before; the memory before the
store joins those a fetch may still see; the pc becomes `pc`; and nothing else changes. -/
def StoreEffect (s t : State) (a : Word) (n : Nat) (v : BitVec (8 * n)) (pc : Word) : Prop :=
  (∀ k, k < n → t.mem.readByte (a + BitVec.ofNat 64 k) = v.extractLsb' (8 * k) 8) ∧
    (∀ b, (∀ k, k < n → b ≠ a + BitVec.ofNat 64 k) → t.mem.readByte b = s.mem.readByte b) ∧
    t.oldMems = s.mem :: s.oldMems ∧ t.pc = pc ∧ SameRegs s t ∧ SameSystem s t ∧ SameModel s t

/-- Memory's bytes are as before, and a fetch sees no older memory; the pc becomes `pc`; and nothing else changes. -/
def SyncEffect (s t : State) (pc : Word) : Prop :=
  t.mem = s.mem ∧ (∀ a, t.mem.readByte a = s.mem.readByte a) ∧ t.oldMems = [] ∧ t.pc = pc ∧
    SameRegs s t ∧ SameSystem s t ∧ SameModel s t

/-- Entry to the handler of an exception (60_exceptions.md R386). The exception registers hold the pc, the code and `tval`;
MPIE holds the old MIE, MIE is 0, MPP holds the old mode, every other bit of mstatus is as before; the mode is machine and the
pc mtvec.BASE; and nothing else changes. -/
def TrapEffect (s t : State) (code : Nat) (tval : Word) : Prop :=
  t.mepc = s.pc ∧ t.mcause = BitVec.ofNat 64 code ∧ t.mtval = tval ∧
    statusMPIE t.mstatus = statusMIE s.mstatus ∧ statusMIE t.mstatus = 0 ∧ statusMPP t.mstatus = s.mode.bits ∧
    (∀ k, k ≠ 3 → k ≠ 7 → k ≠ 11 → k ≠ 12 → t.mstatus.getLsbD k = s.mstatus.getLsbD k) ∧
    t.mode = .machine ∧ t.pc = s.mtvec &&& ~~~3#64 ∧
    t.mtvec = s.mtvec ∧ t.csrs = s.csrs ∧ SameRegs s t ∧ SameMemory s t ∧ SameModel s t

/-- A CSR access (46_fence_system_csr.md R273): x[rd] becomes what the CSR held, the CSR becomes `w` if there is a write, every
other CSR reads as before, the pc becomes `pc`, and nothing else changes. -/
def CsrEffect (s t : State) (rd : RegIdx) (a : CsrIdx) (w : Option Word) (pc : Word) : Prop :=
  (∀ r, t.reg r = if r = 0 then 0 else if r = rd then s.readCsr a else s.reg r) ∧
    (∀ b, t.readCsr b = if b = a then w.getD (s.readCsr a) else s.readCsr b) ∧
    t.pc = pc ∧ t.mode = s.mode ∧ SameMemory s t ∧ SameModel s t

/-! ## The answers of `exec`: a next state, with the effect and its frame -/

def ExecSets (i : Instr) (s : State) (rd : RegIdx) (v pc : Word) : Prop :=
  Completes (exec i s) (fun t => RegEffect s t rd v pc)

def ExecGoes (i : Instr) (s : State) (pc : Word) : Prop := Completes (exec i s) (fun t => PcEffect s t pc)

def ExecStores (i : Instr) (s : State) (a : Word) (n : Nat) (v : BitVec (8 * n)) (pc : Word) : Prop :=
  Completes (exec i s) (fun t => StoreEffect s t a n v pc)

def ExecTraps (i : Instr) (s : State) (code : Nat) (tval : Word) : Prop :=
  Completes (exec i s) (fun t => TrapEffect s t code tval)

/-- A trap for which the spec states no mtval: some value is recorded (log entry 10). -/
def ExecTrapsSomehow (i : Instr) (s : State) (code : Nat) : Prop := ∃ v, ExecTraps i s code v

def ExecCsr (i : Instr) (s : State) (rd : RegIdx) (a : CsrIdx) (w : Option Word) (pc : Word) : Prop :=
  Completes (exec i s) (fun t => CsrEffect s t rd a w pc)

/-! ## Values the rules name -/

/-- Every word with these bits under this mask decodes to this variant (the `Decode:` line of each instruction's rule). -/
def DecodesTo (pattern mask : Word32) (build : Word32 → Instruction) : Prop :=
  ∀ w : Word32, w &&& mask = pattern → decode32 w = .ok (build w)

/-- The accessor ports are these fields (40_dispatch.md R129). -/
def Ports.Shows (p : Ports) (f : Fields) : Prop :=
  p.rd = f.rd ∧ p.rs1 = f.rs1 ∧ p.rs2 = f.rs2 ∧ p.imm = f.imm ∧ p.shamt = f.shamt ∧ p.pred = f.pred ∧ p.succ = f.succ ∧
    p.fm = f.fm ∧ p.csr = f.csr ∧ p.zimm = f.zimm

/-- The pseudo-instruction is these instructions, each of which, where it is well-formed, its encoding decodes to
(30_encoding.md R111). -/
def Pseudo.SpelledAs (p : Pseudo) (l : List Instr) : Prop :=
  p.expansion = l ∧ ∀ i ∈ l, i.wf = true → decodeInstr (encode i) = .ok i

/-- Two, four and eight bytes of memory, little-endian (20_memory.md R41). -/
def Memory.bytes2 (m : Memory) (a : Word) : BitVec 16 := m.readByte (a + 1) ++ m.readByte a
def Memory.bytes4 (m : Memory) (a : Word) : BitVec 32 := m.bytes2 (a + 2) ++ m.bytes2 a
def Memory.bytes8 (m : Memory) (a : Word) : BitVec 64 := m.bytes4 (a + 4) ++ m.bytes4 a

/-- An access of n bytes at a is not one the environment traps (42_load_store.md R181; log entry 8). -/
def AccessAllowed (s : State) (a : Word) (n : Nat) : Prop := s.params.misaligned = .split ∨ a.toNat % n = 0

/-- An access of n bytes at a is one the environment traps. -/
def AccessTraps (s : State) (a : Word) (n : Nat) : Prop := s.params.misaligned = .trap ∧ a.toNat % n ≠ 0

/-- The accesses the executing hart allows (46_fence_system_csr.md R270; log entries 6 and 11). -/
def CsrAllowed (s : State) (a : CsrIdx) (writes : Prop) : Prop :=
  a ∉ s.params.absentCsrs ∧ (a.extractLsb' 8 2).toNat ≤ s.mode.bits.toNat ∧ (writes → a.extractLsb' 10 2 ≠ 0b11#2)

/-- What mtval records of an illegal instruction: its bits, or 0 (60_exceptions.md R381). -/
def tvalOf (s : State) (bits : Word32) : Word := if s.params.illegalTval = .bits then bits.zeroExtend 64 else 0

/-- DIV and DIVW: toward zero, with the corners of 44_int_reg.md R228. -/
def divRule {n : Nat} (a b : BitVec n) : BitVec n :=
  if b = 0 then BitVec.allOnes n
  else if a.toInt = -2 ^ (n - 1) ∧ b.toInt = -1 then a
  else BitVec.ofInt n (a.toInt.tdiv b.toInt)

/-- DIVU and DIVUW. -/
def divuRule {n : Nat} (a b : BitVec n) : BitVec n :=
  if b = 0 then BitVec.allOnes n else BitVec.ofNat n (a.toNat / b.toNat)

/-- REM and REMW: the sign of the dividend, with the corners of R228. -/
def remRule {n : Nat} (a b : BitVec n) : BitVec n :=
  if b = 0 then a
  else if a.toInt = -2 ^ (n - 1) ∧ b.toInt = -1 then 0
  else BitVec.ofInt n (a.toInt.tmod b.toInt)

/-- REMU and REMUW. -/
def remuRule {n : Nat} (a b : BitVec n) : BitVec n :=
  if b = 0 then a else BitVec.ofNat n (a.toNat % b.toNat)

end Sys2Proof.Machine
end

