-- ==== Sys2Proof/Certificates/Slice0/Obligations.lean ====
section
/-! DEFINITION. The statements for the provers. -/

open Sys2Proof Sys2Proof.Machine

/-- O1. For every well-formed instruction form i of length 4, with every operand at every value, the decoder reads i from
encode i. [30_encoding.md sections 1 to 4, 40_dispatch.md section 2] -/
def Obligations.DecodeOfEncodeStandard : Prop :=
  ∀ i : Instr, i.wf = true → i.len = 4 → decodeInstr (encode i) = .ok i

/-- O2. For every well-formed form i of length 2 and every upper half u, the decoder reads i from u ++ the low half of
encode i, and from its two bytes alone, leaving the bytes after them. [30_encoding.md section 6,
48_compressed_expander.md section 2, 20_memory.md section 1] -/
def Obligations.DecodeOfEncodeCompressed : Prop :=
  ∀ i : Instr, i.wf = true → i.len = 2 →
    (∀ u : BitVec 16, decodeInstr (u ++ lowHalf (encode i)) = .ok i) ∧
    ∀ rest : List Byte, decodeBytes (wordByte (encode i) 0 :: wordByte (encode i) 1 :: rest) = .ok (i, rest)

/-- O3. Whenever the decoder reads form i from 32 bits w, i is well-formed, its length is 4 exactly when w[1:0] = 11, and
encode i is w, or for a 2-byte form the low half of w. [30_encoding.md sections 1 to 4, 48_compressed_expander.md
section 2, 40_dispatch.md section 2] -/
def Obligations.EncodeOfDecode : Prop :=
  ∀ (w : Word32) (i : Instr), decodeInstr w = .ok i →
    i.wf = true ∧ (i.len = 4 ↔ w.extractLsb' 0 2 = 0b11#2) ∧ (i.len = 4 ∨ i.len = 2) ∧
      encode i = if w.extractLsb' 0 2 = 0b11#2 then w else 0#16 ++ lowHalf w

/-- O4. Ten words written out in the spec's rules, from each family and both lengths, decode to the forms the rules give
for them. [R150, R153, R173, R180, R198, R222, R243, R260, R264, R319] -/
def Obligations.SpecWordsDecode : Prop :=
  decodeInstr 0x123452B7#32 = .ok (.lui 5 0x12345) ∧
  decodeInstr 0xFFC08067#32 = .ok (.jalr 0 1 0xFFC) ∧
  decodeInstr 0x0005B503#32 = .ok (.ld 10 11 0) ∧
  decodeInstr 0x7E113FA3#32 = .ok (.sd 2 1 2047) ∧
  decodeInstr 0x4013D393#32 = .ok (.srai 7 7 1) ∧
  decodeInstr 0x02C5A533#32 = .ok (.mulhsu 10 11 12) ∧
  decodeInstr 0x41F5551B#32 = .ok (.sraiw 10 10 31) ∧
  decodeInstr 0x0FF0000F#32 = .ok (.fence 0 0 0 15 15) ∧
  decodeInstr 0x34029373#32 = .ok (.csrrw 6 5 0x340) ∧
  decodeInstr 0x00007179#32 = .ok (.cAddi16sp 0x3D0)

/-- O5. Each word of the boundary table decodes to the named variant, and its accessor gives the immediate in the table's
last column. [R83] -/
def Obligations.BoundaryWordsDecode : Prop :=
  (decode32 0x80000013#32 = .ok (.addi ⟨0x80000013#32⟩) ∧ (immI 0x80000013#32).toInt = -2048) ∧
  (decode32 0x7FF00013#32 = .ok (.addi ⟨0x7FF00013#32⟩) ∧ (immI 0x7FF00013#32).toInt = 2047) ∧
  (decode32 0x80003023#32 = .ok (.sd ⟨0x80003023#32⟩) ∧ (immS 0x80003023#32).toInt = -2048) ∧
  (decode32 0x7E003FA3#32 = .ok (.sd ⟨0x7E003FA3#32⟩) ∧ (immS 0x7E003FA3#32).toInt = 2047) ∧
  (decode32 0x80000063#32 = .ok (.beq ⟨0x80000063#32⟩) ∧ (immB 0x80000063#32).toInt = -4096) ∧
  (decode32 0x7E000FE3#32 = .ok (.beq ⟨0x7E000FE3#32⟩) ∧ (immB 0x7E000FE3#32).toInt = 4094) ∧
  (decode32 0xFE000FE3#32 = .ok (.beq ⟨0xFE000FE3#32⟩) ∧ (immB 0xFE000FE3#32).toInt = -2) ∧
  (decode32 0x8000006F#32 = .ok (.jal ⟨0x8000006F#32⟩) ∧ (immJ 0x8000006F#32).toInt = -1048576) ∧
  (decode32 0x7FFFF06F#32 = .ok (.jal ⟨0x7FFFF06F#32⟩) ∧ (immJ 0x7FFFF06F#32).toInt = 1048574) ∧
  (decode32 0xFFFFF06F#32 = .ok (.jal ⟨0xFFFFF06F#32⟩) ∧ (immJ 0xFFFFF06F#32).toInt = -2) ∧
  (decode32 0xFFFFF037#32 = .ok (.lui ⟨0xFFFFF037#32⟩) ∧ immU 0xFFFFF037#32 = 0xFFFFF000#64)

/-- O6. For every word, imm_I and imm_S are its fields sign-extended and lie in -2048 to 2047; imm_B and imm_J reassemble
their fields, lie in -4096 to 4094 and -1048576 to 1048574, and are even; imm_U is w[31:12] above twelve zeros,
unsigned, at most 0xFFFFF000 and a multiple of 4096, and its sign-extension is left to an executor; with the example
of R70. [R70, R71, R73, R74, R75] -/
def Obligations.ImmediateValues : Prop :=
  ∀ w : Word32,
    (immI w = (w.extractLsb' 20 12).signExtend 64 ∧ -2048 ≤ (immI w).toInt ∧ (immI w).toInt ≤ 2047 ∧
      (w.extractLsb' 20 12 = 0x800#12 → immI w = 0xFFFFFFFFFFFFF800#64) ∧
      (w.extractLsb' 20 12 = 0x7FF#12 → (immI w).toInt = 2047)) ∧
    (immS w = (w.extractLsb' 25 7 ++ w.extractLsb' 7 5 : BitVec 12).signExtend 64 ∧
      -2048 ≤ (immS w).toInt ∧ (immS w).toInt ≤ 2047) ∧
    (immB w = (w.extractLsb' 31 1 ++ w.extractLsb' 7 1 ++ w.extractLsb' 25 6 ++ w.extractLsb' 8 4 ++ 0#1 :
        BitVec 13).signExtend 64 ∧
      -4096 ≤ (immB w).toInt ∧ (immB w).toInt ≤ 4094 ∧ (immB w).toInt % 2 = 0) ∧
    (immJ w = (w.extractLsb' 31 1 ++ w.extractLsb' 12 8 ++ w.extractLsb' 20 1 ++ w.extractLsb' 21 10 ++ 0#1 :
        BitVec 21).signExtend 64 ∧
      -1048576 ≤ (immJ w).toInt ∧ (immJ w).toInt ≤ 1048574 ∧ (immJ w).toInt % 2 = 0) ∧
    (immU w = (w.extractLsb' 12 20 ++ 0#12 : BitVec 32).zeroExtend 64 ∧ (immU w).toNat ≤ 0xFFFFF000 ∧
      (immU w).toNat % 4096 = 0)

/-- O7. decode32 gives the Illegal variant for 0; Err(Illegal) for all ones and for a non-zero word not in standard form;
Err(Unimplemented) for w[4:2] = 111; the row's variant, over the word itself, for every row of the table the word
matches; where no row matches, Err(Unimplemented) for the unsupported opcodes and for SYSTEM with funct3 000 or 100,
and Err(Illegal) for the rest. [R123] -/
def Obligations.StandardDecoderSteps : Prop :=
  ∀ w : Word32,
    (w = 0 → decode32 w = .ok (.illegal ⟨w⟩)) ∧
    (w = 0xFFFFFFFF#32 → decode32 w = .error .illegal) ∧
    (w ≠ 0 → w.extractLsb' 0 2 ≠ 0b11#2 → decode32 w = .error .illegal) ∧
    (w ≠ 0xFFFFFFFF#32 → w.extractLsb' 0 2 = 0b11#2 → w.extractLsb' 2 3 = 0b111#3 →
      decode32 w = .error .unimplemented) ∧
    (∀ r ∈ standardRows, w &&& r.mask = r.pattern → decode32 w = .ok (r.build w)) ∧
    (w.extractLsb' 0 2 = 0b11#2 → w.extractLsb' 2 3 ≠ 0b111#3 → (∀ r ∈ standardRows, w &&& r.mask ≠ r.pattern) →
      decode32 w =
        if w.extractLsb' 0 7 ∈ [0b0000111#7, 0b0100111#7, 0b0101111#7, 0b1000011#7, 0b1000111#7, 0b1001011#7,
            0b1001111#7, 0b1010011#7, 0b1010111#7, 0b0001011#7, 0b0101011#7, 0b1011011#7, 0b1111011#7]
        then .error .unimplemented
        else if w.extractLsb' 0 7 = 0b1110011#7 ∧ (w.extractLsb' 12 3 = 0b000#3 ∨ w.extractLsb' 12 3 = 0b100#3)
        then .error .unimplemented
        else .error .illegal)

/-- O8. The table has 72 standard rows, and no word matches two of them (the spec marks as derived that 'The 72 standard
rows' are 'pairwise disjoint'). [40_dispatch.md section 2] -/
def Obligations.OneRowMatches : Prop :=
  standardRows.length = 72 ∧
    ∀ (w : Word32) (j k : Fin standardRows.length),
      w &&& (standardRows.get j).mask = (standardRows.get j).pattern →
        w &&& (standardRows.get k).mask = (standardRows.get k).pattern → j = k

/-- O9. decode32 of 0, and decode of every fetch whose low half is 0 on both compressed paths, give the Illegal variant
over the word 0, with length 2 for the fetch; every accessor of its carrier reads 0. [R122] -/
def Obligations.AllZeroIsTheIllegalVariant : Prop :=
  decode32 0 = .ok (.illegal ⟨0⟩) ∧
  (∀ (fetch : Word32) (path : CompressedPath), fetch.extractLsb' 0 16 = 0 →
    decode fetch path = (.ok (.illegal ⟨0⟩), 2)) ∧
  (Instruction.illegal ⟨0⟩).fields = { rd := 0, rs1 := 0, imm := 0 }

/-- O10. Every word with opcode SYSTEM and funct3 000 other than 0x00000073 and 0x00100073, and every one with funct3
100, is Err(Unimplemented); MRET, SRET and WFI among them. [R126] -/
def Obligations.PrivilegedSpaceIsUnimplemented : Prop :=
  (∀ w : Word32, w.extractLsb' 0 7 = 0b1110011#7 → w.extractLsb' 12 3 = 0b000#3 → w ≠ 0x00000073#32 →
    w ≠ 0x00100073#32 → decode32 w = .error .unimplemented) ∧
  (∀ w : Word32, w.extractLsb' 0 7 = 0b1110011#7 → w.extractLsb' 12 3 = 0b100#3 →
    decode32 w = .error .unimplemented) ∧
  decode32 0x30200073#32 = .error .unimplemented ∧ decode32 0x10200073#32 = .error .unimplemented ∧
  decode32 0x10500073#32 = .error .unimplemented

/-- O11. Under SYSTEM, funct3 001, 010, 011, 101, 110 and 111 give the six CSR variants and no word gives Err(Illegal);
under MISC-MEM, funct3 000 gives Fence, 001 FenceI, and the others Err(Illegal) (the two summary tables of section
46, which the spec marks as derived). [46_fence_system_csr.md] -/
def Obligations.SystemAndFenceOutcomes : Prop :=
  (∀ w : Word32, w.extractLsb' 0 7 = 0b1110011#7 →
    decode32 w ≠ .error .illegal ∧
    (w.extractLsb' 12 3 = 0b001#3 → decode32 w = .ok (.csrrw ⟨w⟩)) ∧
    (w.extractLsb' 12 3 = 0b010#3 → decode32 w = .ok (.csrrs ⟨w⟩)) ∧
    (w.extractLsb' 12 3 = 0b011#3 → decode32 w = .ok (.csrrc ⟨w⟩)) ∧
    (w.extractLsb' 12 3 = 0b101#3 → decode32 w = .ok (.csrrwi ⟨w⟩)) ∧
    (w.extractLsb' 12 3 = 0b110#3 → decode32 w = .ok (.csrrsi ⟨w⟩)) ∧
    (w.extractLsb' 12 3 = 0b111#3 → decode32 w = .ok (.csrrci ⟨w⟩))) ∧
  (∀ w : Word32, w.extractLsb' 0 7 = 0b0001111#7 →
    decode32 w =
      if w.extractLsb' 12 3 = 0b000#3 then .ok (.fence ⟨w⟩)
      else if w.extractLsb' 12 3 = 0b001#3 then .ok (.fenceI ⟨w⟩)
      else .error .illegal)

/-- O12. If decode32 accepts a word as anything but Illegal, Ecall or Ebreak, it accepts as the same variant every word
that differs from it in the rd, rs1 and rs2 fields only; every word with the opcode and funct3 of ADDI, or of FENCE,
is that variant; with the two examples of the rule. [R131] -/
def Obligations.NamingX0NeverRejects : Prop :=
  (∀ (w w' : Word32) (v : Instruction), decode32 w = .ok v → v.tag ≠ 0 → v.tag ≠ 65 → v.tag ≠ 66 →
    w' &&& ~~~0x01FF8F80#32 = w &&& ~~~0x01FF8F80#32 → ∃ v', decode32 w' = .ok v' ∧ v'.tag = v.tag) ∧
  (∀ w : Word32, w &&& 0x0000707F#32 = 0x00000013#32 → decode32 w = .ok (.addi ⟨w⟩)) ∧
  (∀ w : Word32, w &&& 0x0000707F#32 = 0x0000000F#32 → decode32 w = .ok (.fence ⟨w⟩)) ∧
  decode32 0x00500013#32 = .ok (.addi ⟨0x00500013#32⟩) ∧ decode32 0x0000000F#32 = .ok (.fence ⟨0x0000000F#32⟩)

/-- O13. The carrier of a standard decode holds the word; that of a compressed word, other than 0, decoded on either path
holds expand of the parcel; the length tells the two apart; with the spec's example 0x6188. [R132] -/
def Obligations.CarrierHoldsTheWord : Prop :=
  (∀ (w : Word32) (v : Instruction), decode32 w = .ok v → v.word = w) ∧
  (∀ (fetch : Word32) (path : CompressedPath) (v : Instruction) (n : Nat), decode fetch path = (.ok v, n) →
    v.tag ≠ 0 →
    (fetch.extractLsb' 0 2 = 0b11#2 → v.word = fetch ∧ n = 4) ∧
    (fetch.extractLsb' 0 2 ≠ 0b11#2 → v.word = expand (fetch.extractLsb' 0 16) ∧ n = 2)) ∧
  (∀ path : CompressedPath, decode 0x00006188#32 path = (.ok (.ld ⟨0x0005B503#32⟩), 2))

/-- O14. decode32 of the sentinel is Err(Illegal); so a parcel that expands to the sentinel yields no instruction when
forwarded unchecked; and the top-level decode of such a parcel, other than 0, on the expand path is an error. [R133] -/
def Obligations.SentinelYieldsNoInstruction : Prop :=
  decode32 0xFFFFFFFF#32 = .error .illegal ∧
  (∀ (h : Half) (v : Instruction), expand h = 0xFFFFFFFF#32 → decode32 (expand h) ≠ .ok v) ∧
  (∀ (fetch : Word32) (v : Instruction), fetch.extractLsb' 0 2 ≠ 0b11#2 → fetch.extractLsb' 0 16 ≠ 0 →
    expand (fetch.extractLsb' 0 16) = 0xFFFFFFFF#32 → (decode fetch .expand).1 ≠ .ok v)

/-- O15. Every variant, over any word of its carrier, has the tag that R127's table gives it, row by row; every variant's
tag is below 73, every number below 73 is the tag of a variant over any word, and two instructions with the same tag
and the same carrier word are equal. [R127, R81] -/
def Obligations.TagsNameTheVariants : Prop :=
  (∀ c : CarrierI, [Instruction.illegal c, .jalr c, .lb c, .lh c, .lw c, .ld c, .lbu c, .lhu c, .lwu c, .addi c, .slti c,
      .sltiu c, .xori c, .ori c, .andi c, .addiw c, .fenceI c, .ecall c, .ebreak c].map Instruction.tag =
      [0, 4, 11, 12, 13, 14, 15, 16, 17, 22, 23, 24, 25, 26, 27, 49, 64, 65, 66]) ∧
  (∀ c : CarrierU, [Instruction.lui c, .auipc c].map Instruction.tag =
      [1, 2]) ∧
  (∀ c : CarrierJ, [Instruction.jal c].map Instruction.tag =
      [3]) ∧
  (∀ c : CarrierB, [Instruction.beq c, .bne c, .blt c, .bge c, .bltu c, .bgeu c].map Instruction.tag =
      [5, 6, 7, 8, 9, 10]) ∧
  (∀ c : CarrierS, [Instruction.sb c, .sh c, .sw c, .sd c].map Instruction.tag =
      [18, 19, 20, 21]) ∧
  (∀ c : CarrierShift64, [Instruction.slli c, .srli c, .srai c].map Instruction.tag =
      [28, 29, 30]) ∧
  (∀ c : CarrierR, [Instruction.add c, .sub c, .sll c, .slt c, .sltu c, .xor c, .srl c, .sra c, .or c, .and c, .mul c, .mulh
      c, .mulhsu c, .mulhu c, .div c, .divu c, .rem c, .remu c, .addw c, .subw c, .sllw c, .srlw c, .sraw c,
      .mulw c, .divw c, .divuw c, .remw c, .remuw c].map Instruction.tag =
      [31, 32, 33, 34, 35, 36, 37, 38, 39, 40, 41, 42, 43, 44, 45, 46, 47, 48, 53, 54, 55, 56, 57, 58, 59, 60,
      61, 62]) ∧
  (∀ c : CarrierShift32, [Instruction.slliw c, .srliw c, .sraiw c].map Instruction.tag =
      [50, 51, 52]) ∧
  (∀ c : CarrierFence, [Instruction.fence c].map Instruction.tag =
      [63]) ∧
  (∀ c : CarrierCsr, [Instruction.csrrw c, .csrrs c, .csrrc c].map Instruction.tag =
      [67, 68, 69]) ∧
  (∀ c : CarrierCsrImm, [Instruction.csrrwi c, .csrrsi c, .csrrci c].map Instruction.tag =
      [70, 71, 72]) ∧
  (∀ v : Instruction, v.tag.toNat < 73) ∧
  (∀ n : Nat, n < 73 → ∀ w : Word32, ∃ v : Instruction, v.tag.toNat = n ∧ v.word = w) ∧
  (∀ v v' : Instruction, v.tag = v'.tag → v.word = v'.word → v = v')

/-- O16. For every fetch, path and expander input: ok is 1 exactly when the outcome is Ok; then tag and word are the
variant's, err is 0, and rd, rs1, rs2, imm, shamt, pred, succ, fm, csr and zimm are the accessors of the variant's
carrier at that word, or 0 where the carrier lacks one, for each variant of the eleven carriers; otherwise tag, word
and every accessor port are 0 and err is 1 exactly for Err(Illegal); len is 2 or 4; exp_out is expand of exp_in, and
cls16 the class code of the fetch's low half. [R129, R80, R127] -/
def Obligations.PortsFollowTheOutcome : Prop :=
  ∀ (fetch : Word32) (path : CompressedPath) (h : Half),
    (∀ v, (decode fetch path).1 = .ok v →
      (ports fetch path h).ok = 1 ∧ (ports fetch path h).err = 0 ∧ (ports fetch path h).tag = v.tag ∧
        (ports fetch path h).word = v.word) ∧
    (∀ w : Word32, ∀ v ∈ [Instruction.illegal, .jalr, .lb, .lh, .lw, .ld, .lbu, .lhu, .lwu, .addi, .slti, .sltiu, .xori, .ori,
      .andi, .addiw, .fenceI, .ecall, .ebreak],
      (decode fetch path).1 = .ok (v ⟨w⟩) → (ports fetch path h).Shows
        { rd := w.extractLsb' 7 5, rs1 := w.extractLsb' 15 5, imm := immI w }) ∧
    (∀ w : Word32, ∀ v ∈ [Instruction.lui, .auipc],
      (decode fetch path).1 = .ok (v ⟨w⟩) → (ports fetch path h).Shows
        { rd := w.extractLsb' 7 5, imm := immU w }) ∧
    (∀ w : Word32, ∀ v ∈ [Instruction.jal],
      (decode fetch path).1 = .ok (v ⟨w⟩) → (ports fetch path h).Shows
        { rd := w.extractLsb' 7 5, imm := immJ w }) ∧
    (∀ w : Word32, ∀ v ∈ [Instruction.beq, .bne, .blt, .bge, .bltu, .bgeu],
      (decode fetch path).1 = .ok (v ⟨w⟩) → (ports fetch path h).Shows
        { rs1 := w.extractLsb' 15 5, rs2 := w.extractLsb' 20 5, imm := immB w }) ∧
    (∀ w : Word32, ∀ v ∈ [Instruction.sb, .sh, .sw, .sd],
      (decode fetch path).1 = .ok (v ⟨w⟩) → (ports fetch path h).Shows
        { rs1 := w.extractLsb' 15 5, rs2 := w.extractLsb' 20 5, imm := immS w }) ∧
    (∀ w : Word32, ∀ v ∈ [Instruction.slli, .srli, .srai],
      (decode fetch path).1 = .ok (v ⟨w⟩) → (ports fetch path h).Shows
        { rd := w.extractLsb' 7 5, rs1 := w.extractLsb' 15 5, shamt := w.extractLsb' 20 6 }) ∧
    (∀ w : Word32, ∀ v ∈ [Instruction.add, .sub, .sll, .slt, .sltu, .xor, .srl, .sra, .or, .and, .mul, .mulh, .mulhsu, .mulhu, .div,
      .divu, .rem, .remu, .addw, .subw, .sllw, .srlw, .sraw, .mulw, .divw, .divuw, .remw, .remuw],
      (decode fetch path).1 = .ok (v ⟨w⟩) → (ports fetch path h).Shows
        { rd := w.extractLsb' 7 5, rs1 := w.extractLsb' 15 5, rs2 := w.extractLsb' 20 5 }) ∧
    (∀ w : Word32, ∀ v ∈ [Instruction.slliw, .srliw, .sraiw],
      (decode fetch path).1 = .ok (v ⟨w⟩) → (ports fetch path h).Shows
        { rd := w.extractLsb' 7 5, rs1 := w.extractLsb' 15 5, shamt := (w.extractLsb' 20 5).zeroExtend 6 }) ∧
    (∀ w : Word32, ∀ v ∈ [Instruction.fence],
      (decode fetch path).1 = .ok (v ⟨w⟩) → (ports fetch path h).Shows
        { rd := w.extractLsb' 7 5, rs1 := w.extractLsb' 15 5, pred := w.extractLsb' 24 4, succ := w.extractLsb' 20 4,
          fm := w.extractLsb' 28 4 }) ∧
    (∀ w : Word32, ∀ v ∈ [Instruction.csrrw, .csrrs, .csrrc],
      (decode fetch path).1 = .ok (v ⟨w⟩) → (ports fetch path h).Shows
        { rd := w.extractLsb' 7 5, rs1 := w.extractLsb' 15 5, csr := w.extractLsb' 20 12 }) ∧
    (∀ w : Word32, ∀ v ∈ [Instruction.csrrwi, .csrrsi, .csrrci],
      (decode fetch path).1 = .ok (v ⟨w⟩) → (ports fetch path h).Shows
        { rd := w.extractLsb' 7 5, csr := w.extractLsb' 20 12, zimm := w.extractLsb' 15 5 }) ∧
    (∀ e, (decode fetch path).1 = .error e →
      ports fetch path h =
        { len := (ports fetch path h).len, ok := 0, err := if e = .illegal then 1 else 0, tag := 0, word := 0, rd := 0,
          rs1 := 0, rs2 := 0, imm := 0, shamt := 0, pred := 0, succ := 0, fm := 0, csr := 0, zimm := 0,
          expOut := expand h, cls16 := (classify16 (lowHalf fetch)).1.code }) ∧
    (ports fetch path h).len = (if fetch.extractLsb' 0 2 = 0b11#2 then 4#3 else 2#3) ∧
    (ports fetch path h).expOut = expand h ∧ (ports fetch path h).cls16 = (classify16 (lowHalf fetch)).1.code

/-- O17. A fetch with low bits 11 is a 4-byte instruction and decodes as the whole word; any other is a 2-byte
instruction, and every fetch with the same low half decodes alike; a word of the spaces above 32 bits (w[4:2] = 111)
decodes to no instruction. [R42] -/
def Obligations.LengthFromLowTwoBits : Prop :=
  ∀ (fetch : Word32) (path : CompressedPath),
    (fetch.extractLsb' 0 2 = 0b11#2 → decode fetch path = (decode32 fetch, 4)) ∧
    (fetch.extractLsb' 0 2 ≠ 0b11#2 →
      (decode fetch path).2 = 2 ∧ ∀ u : BitVec 16, decode (u ++ fetch.extractLsb' 0 16) path = decode fetch path) ∧
    (fetch.extractLsb' 0 2 = 0b11#2 → fetch.extractLsb' 2 3 = 0b111#3 → ∀ v, (decode fetch path).1 ≠ .ok v)

/-- O18. expand gives the sentinel for every parcel whose class is not Legal: reserved, HINT, unsupported, all-zero or
not compressed; C.ADDI16SP with a zero immediate and the all-zero parcel among them. [R306] -/
def Obligations.ReservedAndHintGiveTheSentinel : Prop :=
  (∀ h : Half, (classify16 h).1 ≠ .legal → expand h = 0xFFFFFFFF#32) ∧
  (classify16 0x6101#16 = (.reserved, some .cAddi16sp) ∧ expand 0x6101#16 = 0xFFFFFFFF#32) ∧
  expand 0x0000#16 = 0xFFFFFFFF#32

/-- O19. expand of h is not the sentinel exactly when the class of h is Legal; then the expansion has low bits 11 and
decodes to a variant over that word that is not Illegal and is the one the form's rule names (both laws the spec
marks as derived: 'Expansions decode' and 'The expander and the validator agree'). [48_compressed_expander.md section
1, 49_validator.md] -/
def Obligations.LegalFormsExpandAndDecode : Prop :=
  ∀ h : Half,
    (expand h ≠ 0xFFFFFFFF#32 ↔ (classify16 h).1 = .legal) ∧
    (expand h ≠ 0xFFFFFFFF#32 → (expand h).extractLsb' 0 2 = 0b11#2 ∧
      ∃ (f : Form) (v : Instruction), (classify16 h).2 = some f ∧ decode32 (expand h) = .ok v ∧ v.tag ≠ 0 ∧
        f.variantTag = some v.tag ∧ v.word = expand h)

/-- O20. For every fetch whose low bits are not 11: all-zero is the Illegal variant, reserved is Err(Illegal), HINT and
unsupported are Err(Unimplemented), and legal is the decoding of its expansion, which is a variant other than Illegal
(the spec's table 'Classes and decode outcomes', marked as derived). [49_validator.md, 40_dispatch.md section 1] -/
def Obligations.ClassDecidesTheOutcome : Prop :=
  ∀ fetch : Word32, fetch.extractLsb' 0 2 ≠ 0b11#2 →
    match (classify16 (fetch.extractLsb' 0 16)).1 with
    | .legal => decode fetch .expand = (decode32 (expand (fetch.extractLsb' 0 16)), 2) ∧
        ∃ v, (decode fetch .expand).1 = .ok v ∧ v.tag ≠ 0
    | .illegalZero => decode fetch .expand = (.ok (.illegal ⟨0⟩), 2)
    | .reserved => decode fetch .expand = (.error .illegal, 2)
    | .hint => decode fetch .expand = (.error .unimplemented, 2)
    | .unsupported => decode fetch .expand = (.error .unimplemented, 2)
    | .notCompressed => False

/-- O21. cdecode is Err(Unimplemented) for every non-zero parcel of quadrants 1, 2 and 3 and of quadrant 0 with funct3
000, 001, 100 or 101, and for no other; cdecode of 0 is the Illegal variant decode32 gives 0; 0x0004 is
Err(Unimplemented). [R286, R287] -/
def Obligations.QuadrantDecoderOutcomes : Prop :=
  (∀ h : Half, cdecode h = .error .unimplemented ↔ h ≠ 0 ∧
    (h.extractLsb' 0 2 ≠ 0b00#2 ∨ h.extractLsb' 13 3 ∈ [0b000#3, 0b001#3, 0b100#3, 0b101#3])) ∧
  cdecode 0 = .ok (.illegal ⟨0⟩) ∧ cdecode 0 = decode32 0 ∧ cdecode 0x0004#16 = .error .unimplemented

/-- O22. For every parcel of quadrant 0 with funct3 010, 011, 110 and 111, cdecode gives Lw, Ld, Sw and Sd over the word
made of the scaled offset, the popular registers, funct3 and the opcode; with the spec's examples. [R282, R283, R284,
R285] -/
def Obligations.QuadrantDecoderPlacesBits : Prop :=
  (∀ h : Half, h.extractLsb' 0 2 = 0b00#2 → h.extractLsb' 13 3 = 0b010#3 →
    cdecode h = .ok (.lw ⟨wordI ((h.extractLsb' 5 1 ++ h.extractLsb' 10 3 ++ h.extractLsb' 6 1 ++ 0#2).zeroExtend 12)
      (0b01#2 ++ h.extractLsb' 7 3) 0b010 (0b01#2 ++ h.extractLsb' 2 3) 0b0000011⟩)) ∧
  (∀ h : Half, h.extractLsb' 0 2 = 0b00#2 → h.extractLsb' 13 3 = 0b011#3 →
    cdecode h = .ok (.ld ⟨wordI ((h.extractLsb' 5 2 ++ h.extractLsb' 10 3 ++ 0#3).zeroExtend 12)
      (0b01#2 ++ h.extractLsb' 7 3) 0b011 (0b01#2 ++ h.extractLsb' 2 3) 0b0000011⟩)) ∧
  (∀ h : Half, h.extractLsb' 0 2 = 0b00#2 → h.extractLsb' 13 3 = 0b110#3 →
    cdecode h = .ok (.sw ⟨wordS ((h.extractLsb' 5 1 ++ h.extractLsb' 10 3 ++ h.extractLsb' 6 1 ++ 0#2).zeroExtend 12)
      (0b01#2 ++ h.extractLsb' 2 3) (0b01#2 ++ h.extractLsb' 7 3) 0b010 0b0100011⟩)) ∧
  (∀ h : Half, h.extractLsb' 0 2 = 0b00#2 → h.extractLsb' 13 3 = 0b111#3 →
    cdecode h = .ok (.sd ⟨wordS ((h.extractLsb' 5 2 ++ h.extractLsb' 10 3 ++ 0#3).zeroExtend 12)
      (0b01#2 ++ h.extractLsb' 2 3) (0b01#2 ++ h.extractLsb' 7 3) 0b011 0b0100011⟩)) ∧
  cdecode 0x43B0#16 = .ok (.lw ⟨0x0407A603#32⟩) ∧ formOf (.lw ⟨0x0407A603#32⟩) = .lw 12 15 64 ∧
  cdecode 0x6188#16 = .ok (.ld ⟨0x0005B503#32⟩) ∧ formOf (.ld ⟨0x0005B503#32⟩) = .ld 10 11 0 ∧
  cdecode 0x75E0#16 = .ok (.ld ⟨0x0E85B403#32⟩) ∧ formOf (.ld ⟨0x0E85B403#32⟩) = .ld 8 11 232 ∧
  cdecode 0xC3B0#16 = .ok (.sw ⟨0x04C7A023#32⟩) ∧ formOf (.sw ⟨0x04C7A023#32⟩) = .sw 15 12 64 ∧
  cdecode 0xE188#16 = .ok (.sd ⟨0x00A5B023#32⟩) ∧ formOf (.sd ⟨0x00A5B023#32⟩) = .sd 11 10 0 ∧
  cdecode 0xF5E0#16 = .ok (.sd ⟨0x0E85B423#32⟩) ∧ formOf (.sd ⟨0x0E85B423#32⟩) = .sd 11 8 232

/-- O23. For every parcel the quadrant decoder accepts as v, other than Illegal, expand is not the sentinel and decode32
of the expansion is the same variant over the same word; so the whole decode gives the same on both paths; and for
the quadrant and funct3 pairs without a mapping expand is the sentinel and cdecode is Err(Unimplemented) (laws the
spec marks as derived). [47_compressed_decoder.md] -/
def Obligations.TwoPathsRoundTrip : Prop :=
  (∀ (h : Half) (v : Instruction), cdecode h = .ok v → v.tag ≠ 0 →
    expand h ≠ 0xFFFFFFFF#32 ∧ decode32 (expand h) = .ok v) ∧
  (∀ (fetch : Word32) (v : Instruction) (n : Nat), decode fetch .quadrant = (.ok v, n) →
    decode fetch .expand = (.ok v, n)) ∧
  (∀ h : Half,
    (h.extractLsb' 0 2 = 0b00#2 ∧ h.extractLsb' 13 3 ∈ [0b001#3, 0b100#3, 0b101#3]) ∨
      (h.extractLsb' 0 2 = 0b10#2 ∧ h.extractLsb' 13 3 ∈ [0b001#3, 0b101#3]) ∨ h.extractLsb' 0 2 = 0b11#2 →
    expand h = 0xFFFFFFFF#32 ∧ cdecode h = .error .unimplemented)

/-- O24. For each of the 33 legal forms, at every operand that makes it legal, expand of its word is the encoding of its
32-bit instruction: popular registers are the field plus 8, offsets zero-extended, immediates sign-extended, sp and
ra as the form names them. [48_compressed_expander.md section 2] -/
def Obligations.CompressedFormsAbbreviate : Prop :=
  (∀ (rdp : PopIdx) (n : BitVec 10), (Instr.cAddi4spn rdp n).wf = true →
    expand (lowHalf (encode (.cAddi4spn rdp n))) = encode (.addi (popular rdp) 2 (n.zeroExtend 12))) ∧
  (∀ (rdp rs1p : PopIdx) (n : BitVec 7), (Instr.cLw rdp rs1p n).wf = true →
    expand (lowHalf (encode (.cLw rdp rs1p n))) = encode (.lw (popular rdp) (popular rs1p) (n.zeroExtend 12))) ∧
  (∀ (rdp rs1p : PopIdx) (n : BitVec 8), (Instr.cLd rdp rs1p n).wf = true →
    expand (lowHalf (encode (.cLd rdp rs1p n))) = encode (.ld (popular rdp) (popular rs1p) (n.zeroExtend 12))) ∧
  (∀ (rs1p rs2p : PopIdx) (n : BitVec 7), (Instr.cSw rs1p rs2p n).wf = true →
    expand (lowHalf (encode (.cSw rs1p rs2p n))) = encode (.sw (popular rs1p) (popular rs2p) (n.zeroExtend 12))) ∧
  (∀ (rs1p rs2p : PopIdx) (n : BitVec 8), (Instr.cSd rs1p rs2p n).wf = true →
    expand (lowHalf (encode (.cSd rs1p rs2p n))) = encode (.sd (popular rs1p) (popular rs2p) (n.zeroExtend 12))) ∧
  (expand (lowHalf (encode .cNop)) = encode (.addi 0 0 0)) ∧
  (∀ (rd : RegIdx) (n : BitVec 6), (Instr.cAddi rd n).wf = true →
    expand (lowHalf (encode (.cAddi rd n))) = encode (.addi rd rd (n.signExtend 12))) ∧
  (∀ (rd : RegIdx) (n : BitVec 6), (Instr.cAddiw rd n).wf = true →
    expand (lowHalf (encode (.cAddiw rd n))) = encode (.addiw rd rd (n.signExtend 12))) ∧
  (∀ (rd : RegIdx) (n : BitVec 6), (Instr.cLi rd n).wf = true →
    expand (lowHalf (encode (.cLi rd n))) = encode (.addi rd 0 (n.signExtend 12))) ∧
  (∀ n : BitVec 10, (Instr.cAddi16sp n).wf = true →
    expand (lowHalf (encode (.cAddi16sp n))) = encode (.addi 2 2 (n.signExtend 12))) ∧
  (∀ (rd : RegIdx) (n : BitVec 6), (Instr.cLui rd n).wf = true →
    expand (lowHalf (encode (.cLui rd n))) = encode (.lui rd (n.signExtend 20))) ∧
  (∀ (rdp : PopIdx) (n : BitVec 6), (Instr.cSrli rdp n).wf = true →
    expand (lowHalf (encode (.cSrli rdp n))) = encode (.srli (popular rdp) (popular rdp) n)) ∧
  (∀ (rdp : PopIdx) (n : BitVec 6), (Instr.cSrai rdp n).wf = true →
    expand (lowHalf (encode (.cSrai rdp n))) = encode (.srai (popular rdp) (popular rdp) n)) ∧
  (∀ (rdp : PopIdx) (n : BitVec 6),
    expand (lowHalf (encode (.cAndi rdp n))) = encode (.andi (popular rdp) (popular rdp) (n.signExtend 12))) ∧
  (∀ rdp rs2p : PopIdx,
    expand (lowHalf (encode (.cSub rdp rs2p))) = encode (.sub (popular rdp) (popular rdp) (popular rs2p))) ∧
  (∀ rdp rs2p : PopIdx,
    expand (lowHalf (encode (.cXor rdp rs2p))) = encode (.xor (popular rdp) (popular rdp) (popular rs2p))) ∧
  (∀ rdp rs2p : PopIdx,
    expand (lowHalf (encode (.cOr rdp rs2p))) = encode (.or (popular rdp) (popular rdp) (popular rs2p))) ∧
  (∀ rdp rs2p : PopIdx,
    expand (lowHalf (encode (.cAnd rdp rs2p))) = encode (.and (popular rdp) (popular rdp) (popular rs2p))) ∧
  (∀ rdp rs2p : PopIdx,
    expand (lowHalf (encode (.cSubw rdp rs2p))) = encode (.subw (popular rdp) (popular rdp) (popular rs2p))) ∧
  (∀ rdp rs2p : PopIdx,
    expand (lowHalf (encode (.cAddw rdp rs2p))) = encode (.addw (popular rdp) (popular rdp) (popular rs2p))) ∧
  (∀ n : BitVec 12, (Instr.cJ n).wf = true → expand (lowHalf (encode (.cJ n))) = encode (.jal 0 (n.signExtend 21))) ∧
  (∀ (rs1p : PopIdx) (n : BitVec 9), (Instr.cBeqz rs1p n).wf = true →
    expand (lowHalf (encode (.cBeqz rs1p n))) = encode (.beq (popular rs1p) 0 (n.signExtend 13))) ∧
  (∀ (rs1p : PopIdx) (n : BitVec 9), (Instr.cBnez rs1p n).wf = true →
    expand (lowHalf (encode (.cBnez rs1p n))) = encode (.bne (popular rs1p) 0 (n.signExtend 13))) ∧
  (∀ (rd : RegIdx) (n : BitVec 6), (Instr.cSlli rd n).wf = true →
    expand (lowHalf (encode (.cSlli rd n))) = encode (.slli rd rd n)) ∧
  (∀ (rd : RegIdx) (n : BitVec 8), (Instr.cLwsp rd n).wf = true →
    expand (lowHalf (encode (.cLwsp rd n))) = encode (.lw rd 2 (n.zeroExtend 12))) ∧
  (∀ (rd : RegIdx) (n : BitVec 9), (Instr.cLdsp rd n).wf = true →
    expand (lowHalf (encode (.cLdsp rd n))) = encode (.ld rd 2 (n.zeroExtend 12))) ∧
  (∀ rs1 : RegIdx, rs1 ≠ 0 → expand (lowHalf (encode (.cJr rs1))) = encode (.jalr 0 rs1 0)) ∧
  (∀ rd rs2 : RegIdx, rd ≠ 0 → rs2 ≠ 0 → expand (lowHalf (encode (.cMv rd rs2))) = encode (.add rd 0 rs2)) ∧
  (expand (lowHalf (encode .cEbreak)) = encode .ebreak) ∧
  (∀ rs1 : RegIdx, rs1 ≠ 0 → expand (lowHalf (encode (.cJalr rs1))) = encode (.jalr 1 rs1 0)) ∧
  (∀ rd rs2 : RegIdx, rd ≠ 0 → rs2 ≠ 0 → expand (lowHalf (encode (.cAdd rd rs2))) = encode (.add rd rd rs2)) ∧
  (∀ (rs2 : RegIdx) (n : BitVec 8), (Instr.cSwsp rs2 n).wf = true →
    expand (lowHalf (encode (.cSwsp rs2 n))) = encode (.sw 2 rs2 (n.zeroExtend 12))) ∧
  (∀ (rs2 : RegIdx) (n : BitVec 9), (Instr.cSdsp rs2 n).wf = true →
    expand (lowHalf (encode (.cSdsp rs2 n))) = encode (.sd 2 rs2 (n.zeroExtend 12)))

/-- O25. Row by row of the table, at every operand, the pseudo-instruction is the instructions of its expansion, and each
of those, where it is well-formed (a branch or jump offset even), is what its encoding decodes to; the three words
the table spells out decode to the expansions of nop, ret and fence; and for every 32-bit offset below 0x7FFFF800 the
sign-extended parts hi20 and lo12 add up to it (from 0x7FFFF800 on no parts do, and the parts in the rows of call,
tail and la are the model's choice: log entry 21). [R111] -/
def Obligations.PseudoInstructionsDecode : Prop :=
  Pseudo.SpelledAs .nop [.addi 0 0 0] ∧
  (∀ (rd : RegIdx) (imm : BitVec 12), Pseudo.SpelledAs (.li rd imm) [.addi rd 0 imm]) ∧
  (∀ (rd rs : RegIdx), Pseudo.SpelledAs (.mv rd rs) [.addi rd rs 0]) ∧
  (∀ (rd rs : RegIdx), Pseudo.SpelledAs (.not rd rs) [.xori rd rs (-1)]) ∧
  (∀ (rd rs : RegIdx), Pseudo.SpelledAs (.neg rd rs) [.sub rd 0 rs]) ∧
  (∀ (rd rs : RegIdx), Pseudo.SpelledAs (.negw rd rs) [.subw rd 0 rs]) ∧
  (∀ (rd rs : RegIdx), Pseudo.SpelledAs (.sextW rd rs) [.addiw rd rs 0]) ∧
  (∀ (rd rs : RegIdx), Pseudo.SpelledAs (.seqz rd rs) [.sltiu rd rs 1]) ∧
  (∀ (rd rs : RegIdx), Pseudo.SpelledAs (.snez rd rs) [.sltu rd 0 rs]) ∧
  (∀ (rd rs : RegIdx), Pseudo.SpelledAs (.sltz rd rs) [.slt rd rs 0]) ∧
  (∀ (rd rs : RegIdx), Pseudo.SpelledAs (.sgtz rd rs) [.slt rd 0 rs]) ∧
  (∀ (rs : RegIdx) (off : BitVec 13), Pseudo.SpelledAs (.beqz rs off) [.beq rs 0 off]) ∧
  (∀ (rs : RegIdx) (off : BitVec 13), Pseudo.SpelledAs (.bnez rs off) [.bne rs 0 off]) ∧
  (∀ (rs : RegIdx) (off : BitVec 13), Pseudo.SpelledAs (.blez rs off) [.bge 0 rs off]) ∧
  (∀ (rs : RegIdx) (off : BitVec 13), Pseudo.SpelledAs (.bgez rs off) [.bge rs 0 off]) ∧
  (∀ (rs : RegIdx) (off : BitVec 13), Pseudo.SpelledAs (.bltz rs off) [.blt rs 0 off]) ∧
  (∀ (rs : RegIdx) (off : BitVec 13), Pseudo.SpelledAs (.bgtz rs off) [.blt 0 rs off]) ∧
  (∀ (rs rt : RegIdx) (off : BitVec 13), Pseudo.SpelledAs (.bgt rs rt off) [.blt rt rs off]) ∧
  (∀ (rs rt : RegIdx) (off : BitVec 13), Pseudo.SpelledAs (.ble rs rt off) [.bge rt rs off]) ∧
  (∀ (rs rt : RegIdx) (off : BitVec 13), Pseudo.SpelledAs (.bgtu rs rt off) [.bltu rt rs off]) ∧
  (∀ (rs rt : RegIdx) (off : BitVec 13), Pseudo.SpelledAs (.bleu rs rt off) [.bgeu rt rs off]) ∧
  (∀ (off : BitVec 21), Pseudo.SpelledAs (.j off) [.jal 0 off]) ∧
  (∀ (off : BitVec 21), Pseudo.SpelledAs (.jal off) [.jal 1 off]) ∧
  (∀ (rs : RegIdx), Pseudo.SpelledAs (.jr rs) [.jalr 0 rs 0]) ∧
  (∀ (rs : RegIdx), Pseudo.SpelledAs (.jalr rs) [.jalr 1 rs 0]) ∧
  Pseudo.SpelledAs .ret [.jalr 0 1 0] ∧
  (∀ (off : BitVec 32), Pseudo.SpelledAs (.call off) [.auipc 1 (hi20 off), .jalr 1 1 (lo12 off)]) ∧
  (∀ (off : BitVec 32), Pseudo.SpelledAs (.tail off) [.auipc 6 (hi20 off), .jalr 0 6 (lo12 off)]) ∧
  (∀ (rd : RegIdx) (off : BitVec 32), Pseudo.SpelledAs (.la rd off) [.auipc rd (hi20 off), .addi rd rd (lo12 off)]) ∧
  Pseudo.SpelledAs .fence [.fence 0 0 0 0b1111 0b1111] ∧
  (∀ (rd : RegIdx) (csr : CsrIdx), Pseudo.SpelledAs (.csrr rd csr) [.csrrs rd 0 csr]) ∧
  (∀ (csr : CsrIdx) (rs : RegIdx), Pseudo.SpelledAs (.csrw csr rs) [.csrrw 0 rs csr]) ∧
  (∀ (csr : CsrIdx) (rs : RegIdx), Pseudo.SpelledAs (.csrs csr rs) [.csrrs 0 rs csr]) ∧
  (∀ (csr : CsrIdx) (rs : RegIdx), Pseudo.SpelledAs (.csrc csr rs) [.csrrc 0 rs csr]) ∧
  (∀ (csr : CsrIdx) (z : BitVec 5), Pseudo.SpelledAs (.csrwi csr z) [.csrrwi 0 z csr]) ∧
  (∀ (csr : CsrIdx) (z : BitVec 5), Pseudo.SpelledAs (.csrsi csr z) [.csrrsi 0 z csr]) ∧
  (∀ (csr : CsrIdx) (z : BitVec 5), Pseudo.SpelledAs (.csrci csr z) [.csrrci 0 z csr]) ∧
  (∀ (rd : RegIdx), Pseudo.SpelledAs (.rdcycle rd) [.csrrs rd 0 0xC00]) ∧
  (∀ (rd : RegIdx), Pseudo.SpelledAs (.rdtime rd) [.csrrs rd 0 0xC01]) ∧
  (∀ (rd : RegIdx), Pseudo.SpelledAs (.rdinstret rd) [.csrrs rd 0 0xC02]) ∧
  decodeInstr 0x00000013#32 = .ok (.addi 0 0 0) ∧ decodeInstr 0x00008067#32 = .ok (.jalr 0 1 0) ∧
  decodeInstr 0x0FF0000F#32 = .ok (.fence 0 0 0 0b1111 0b1111) ∧
  (∀ off : BitVec 32, off.toInt < 0x7FFFF800 →
    (hi20 off ++ 0#12 : BitVec 32).signExtend 64 + (lo12 off).signExtend 64 = off.signExtend 64)

/-- O26. In every state x0 reads 0 and a write to it changes nothing; a write to another register is read back there, and
every register other than the one written reads as before. [R24] -/
def Obligations.RegisterZeroIsHardWired : Prop :=
  ∀ (s : State) (v : Word),
    s.reg 0 = 0 ∧ s.setReg 0 v = s ∧
      ∀ rd : RegIdx, rd ≠ 0 → (s.setReg rd v).reg rd = v ∧ ∀ r, r ≠ rd → (s.setReg rd v).reg r = s.reg r

/-- O27. The fetch word of bytes b0 to b3 is b3 ++ b2 ++ b1 ++ b0, its compressed word b1 ++ b0; where no store waits for
a FENCE.I, the fetch of a state is that word of the four bytes of memory from the pc on, also where that passes the
top of the address space (the bytes then wrap, log entry 5; the memories that wait are the model's, log entry 2);
with the spec's example. [R41] -/
def Obligations.FetchWordIsLittleEndian : Prop :=
  (∀ b0 b1 b2 b3 : Byte, assemble b0 b1 b2 b3 = b3 ++ b2 ++ b1 ++ b0 ∧ lowHalf (assemble b0 b1 b2 b3) = b1 ++ b0) ∧
  (∀ s : State, s.oldMems = [] →
    s.fetchWord = assemble (s.mem.readByte s.pc) (s.mem.readByte (s.pc + 1)) (s.mem.readByte (s.pc + 2))
      (s.mem.readByte (s.pc + 3))) ∧
  assemble 0x03#8 0xB5#8 0x05#8 0x00#8 = 0x0005B503#32

/-- O28. In every state the fetch word is the four bytes at the pc of the present memory or of one of the older memories;
where all of them hold the same word there, it is that word (the model's choice of a draw between whole memories, log
entry 2). [20_memory.md section 3] -/
def Obligations.FetchSeesMemoryOrAnOlderOne : Prop :=
  ∀ s : State,
    (∃ m ∈ s.mem :: s.oldMems, s.fetchWord = m.read s.pc 4) ∧
      ((∀ m ∈ s.oldMems, m.read s.pc 4 = s.mem.read s.pc 4) → s.fetchWord = s.mem.read s.pc 4)

/-- O29. At an even pc, when the fetch word decodes to form i, step is exec of i on the same state with the free-value
counter advanced by one; the pc is moved by exec itself. [R121, R43] -/
def Obligations.StepRunsTheDecodedInstruction : Prop :=
  ∀ (s : State) (i : Instr), s.pc.extractLsb' 0 1 = 0#1 → decodeInstr s.fetchWord = .ok i → step s = exec i s.tick

/-- O30. At an even pc, when the fetch word decodes to no form, step takes the trap with code 2 and records the 32-bit
word, or the zero-extended parcel of a compressed word, or 0, as ILLEGAL_TVAL says; at an odd pc it takes the
instruction-address-misaligned exception, code 0, with some value in mtval (mtval: log entry 10; layout: log entry
11; the exception of an odd pc: log entry 15; machine mode from any mode: log entry 16). [R381, R386, R44, R382] -/
def Obligations.StepTrapsWithoutAnInstruction : Prop :=
  (∀ (s : State) (e : DecodingError), s.pc.extractLsb' 0 1 = 0#1 → decodeInstr s.fetchWord = .error e →
    Completes (step s) (fun t => TrapEffect s.tick t 2 (tvalOf s
      (if s.fetchWord.extractLsb' 0 2 = 0b11#2 then s.fetchWord else 0#16 ++ s.fetchWord.extractLsb' 0 16)))) ∧
  ∀ s : State, s.pc.extractLsb' 0 1 = 1#1 → ∃ v, Completes (step s) (fun t => TrapEffect s.tick t 0 v)

/-- O31. In every state, fetching, decoding with the instance's COMPRESSED_PATH and executing the variant's accessors
with the block's length gives the same answer as the model's step, which decodes to a form and runs its meaning (that
a hart consumes the block: log entry 1). [40_dispatch.md sections 1 and 3, 48_compressed_expander.md section 1,
60_exceptions.md section 1] -/
def Obligations.StepIsTheBlockStep : Prop :=
  ∀ s : State, step s = blockStep s

/-- O32. If the pc is even, memory and every older memory are in canonical form, and the sparse CSRs are canonical, none
of them read-only or with a field of its own, then all this holds after any step (the older memories: log entry 2;
the form of memory: log entry 5; the place of mtvec.BASE and the CSR numbers: log entry 11). [20_memory.md section 1,
41_upper_jump_branch.md, 46_fence_system_csr.md, 60_exceptions.md section 2] -/
def Obligations.StepKeepsTheInvariant : Prop :=
  ∀ s t : State, s.inv = true → step s = .next t → t.inv = true

/-- O33. State.reset meets the invariant, and so does the reset state of any instance with an even reset vector (the
zeros at reset are the model's choice: log entries 4 and 5). [70_reset_and_hazards.md section 1] -/
def Obligations.ResetHasTheInvariant : Prop :=
  State.reset.inv = true ∧
    ∀ (p : Params) (vector : Word), vector.extractLsb' 0 1 = 0#1 → (State.resetAt p vector).inv = true

/-- O34. For any parameters and reset vector, the state after reset is in machine mode with mstatus.MIE = 0 and the pc at
the vector, and the parameters as given; every register, every byte of memory and every CSR but the counters reads 0,
the model's choice (log entries 4, 5 and 11; the layout of mstatus: log entry 11), and State.reset is the instance
with the default parameters at the model's vector (log entry 3). [R401, R400] -/
def Obligations.ResetValues : Prop :=
  ∀ (p : Params) (vector : Word),
    (State.resetAt p vector).mode = .machine ∧ statusMIE (State.resetAt p vector).mstatus = 0 ∧
      (State.resetAt p vector).pc = vector ∧ (State.resetAt p vector).params = p ∧
      (∀ a, (State.resetAt p vector).mem.readByte a = 0) ∧ (∀ r, (State.resetAt p vector).reg r = 0) ∧
      (∀ a, isCounter a = false → (State.resetAt p vector).readCsr a = 0) ∧
      State.reset = State.resetAt Params.default Config.resetVector

/-- O35. In every state every instruction form's meaning answers a next state, and so does step: the block has no fault
state, and the hart that consumes it turns each failure into an exception (that a hart consumes the block: log entry
1). [R395, R381] -/
def Obligations.EveryAnswerIsANextState : Prop :=
  (∀ (i : Instr) (s : State), ∃ t, exec i s = .next t) ∧ ∀ s : State, ∃ t, step s = .next t

/-- O36. If step answers t from s, the parameters of t are those of s and its counter is one more (that every parameter,
not COMPRESSED_PATH alone, is fixed: log entry 9; the counter is the model's own, log entry 2). [R400] -/
def Obligations.StepKeepsTheParameters : Prop :=
  ∀ s t : State, step s = .next t → t.params = s.params ∧ t.draws = s.draws + 1

/-- O37. If exec of any form answers t from s, the mode of t is that of s, or t is in machine mode with mepc holding the
pc of s and the pc at mtvec.BASE; so a hart in machine mode stays there (machine mode from any mode: log entry 16;
the place of mtvec.BASE: log entry 11). [R386] -/
def Obligations.OnlyATrapChangesTheMode : Prop :=
  ∀ (i : Instr) (s t : State), exec i s = .next t →
    t.mode = s.mode ∨ (t.mode = .machine ∧ t.mepc = s.pc ∧ t.pc = s.mtvec &&& ~~~3#64)

/-- O38. If executing a decoded variant, at any length, answers t from s, every integer register its host record does not
list as written reads as before; and over canonical CSRs so does every CSR it does not list, or t is the entry to a
trap from s (CSRs among the listed registers: log entry 17; trap layout: log entry 11; machine mode from any mode:
log entry 16). [R25, R140] -/
def Obligations.OnlyNamedRegistersAreWritten : Prop :=
  ∀ (v : Instruction) (len : Nat) (s t : State), execute v len s = .next t →
    (∀ r : RegIdx, HostReg.integer r ∉ v.record.writes → t.reg r = s.reg r) ∧
      (Cells.wf 0#64 0xC00 s.csrs = true →
        (∀ a : CsrIdx, HostReg.csr a ∉ v.record.writes → t.readCsr a = s.readCsr a) ∨
          ∃ code tval, TrapEffect s t code tval)

/-- O39. Take two states that differ in integer registers only and agree on those the variant's record lists as read; if
executing the variant answers t from the first, it answers from the second a state that agrees with t on everything
but registers, and on each register the record lists as written agrees with t too, unless neither answer wrote it (a
load or a CSR access that traps). [R25, R140] -/
def Obligations.OnlyNamedRegistersAreRead : Prop :=
  ∀ (v : Instruction) (len : Nat) (s t : State) (regs : Vector Word 31),
    (∀ r : RegIdx, HostReg.integer r ∈ v.record.reads → ({ s with regs := regs } : State).reg r = s.reg r) →
    execute v len s = .next t →
    ∃ t', execute v len { s with regs := regs } = .next t' ∧ { t' with regs := t.regs } = t ∧
      ∀ r : RegIdx, HostReg.integer r ∈ v.record.writes →
        t'.reg r = t.reg r ∨ (t'.reg r = ({ s with regs := regs } : State).reg r ∧ t.reg r = s.reg r)

/-- O40. LUI writes the sign-extended upper immediate and AUIPC adds it to the pc; JAL and JALR write pc + 4 and go to pc
+ imm and to (x[rs1] + imm) with bit 0 cleared, the target taken from the old x[rs1]; everything else is unchanged;
for every operand, rd = x0 included (pc + 4 wraps past the top of the address space, the model's choice: log entry
20). [R150, R151, R152, R153] -/
def Obligations.UpperImmediateAndJumpResults : Prop :=
  (∀ (s : State) (rd : RegIdx) (imm : BitVec 20),
    ExecSets (.lui rd imm) s rd ((imm ++ 0#12 : BitVec 32).signExtend 64) (s.pc + 4)) ∧
  (∀ (s : State) (rd : RegIdx) (imm : BitVec 20),
    ExecSets (.auipc rd imm) s rd (s.pc + (imm ++ 0#12 : BitVec 32).signExtend 64) (s.pc + 4)) ∧
  (∀ (s : State) (rd : RegIdx) (imm : BitVec 21),
    ExecSets (.jal rd imm) s rd (s.pc + 4) (s.pc + imm.signExtend 64)) ∧
  (∀ (s : State) (rd rs1 : RegIdx) (imm : BitVec 12),
    ExecSets (.jalr rd rs1 imm) s rd (s.pc + 4) ((s.reg rs1 + imm.signExtend 64) &&& ~~~1#64))

/-- O41. Each branch's match and mask decode to its variant, with its rule's example; it goes to pc + imm where its
condition on the two registers holds and to pc + 4 where it does not, and changes nothing else (pc + 4 wraps past the
top of the address space, the model's choice: log entry 20). [R154, R155, R156, R157, R158, R159] -/
def Obligations.BranchForms : Prop :=
  (DecodesTo 0x00000063 0x0000707F (fun w => .beq ⟨w⟩) ∧ decodeInstr 0xFEB50CE3#32 = .ok (.beq 10 11 0x1FF8) ∧
    ∀ (s : State) (rs1 rs2 : RegIdx) (imm : BitVec 13),
      ExecGoes (.beq rs1 rs2 imm) s (if s.reg rs1 = s.reg rs2 then s.pc + imm.signExtend 64 else s.pc + 4)) ∧
  (DecodesTo 0x00001063 0x0000707F (fun w => .bne ⟨w⟩) ∧ decodeInstr 0x00029863#32 = .ok (.bne 5 0 16) ∧
    ∀ (s : State) (rs1 rs2 : RegIdx) (imm : BitVec 13),
      ExecGoes (.bne rs1 rs2 imm) s (if s.reg rs1 ≠ s.reg rs2 then s.pc + imm.signExtend 64 else s.pc + 4)) ∧
  (DecodesTo 0x00004063 0x0000707F (fun w => .blt ⟨w⟩) ∧ decodeInstr 0x8020C063#32 = .ok (.blt 1 2 0x1000) ∧
    ∀ (s : State) (rs1 rs2 : RegIdx) (imm : BitVec 13),
      ExecGoes (.blt rs1 rs2 imm) s (if (s.reg rs1).toInt < (s.reg rs2).toInt then s.pc + imm.signExtend 64 else s.pc + 4)) ∧
  (DecodesTo 0x00005063 0x0000707F (fun w => .bge ⟨w⟩) ∧ decodeInstr 0x7E735FE3#32 = .ok (.bge 6 7 4094) ∧
    ∀ (s : State) (rs1 rs2 : RegIdx) (imm : BitVec 13),
      ExecGoes (.bge rs1 rs2 imm) s (if (s.reg rs1).toInt ≥ (s.reg rs2).toInt then s.pc + imm.signExtend 64 else s.pc + 4)) ∧
  (DecodesTo 0x00006063 0x0000707F (fun w => .bltu ⟨w⟩) ∧ decodeInstr 0x02D66063#32 = .ok (.bltu 12 13 32) ∧
    ∀ (s : State) (rs1 rs2 : RegIdx) (imm : BitVec 13),
      ExecGoes (.bltu rs1 rs2 imm) s (if (s.reg rs1).toNat < (s.reg rs2).toNat then s.pc + imm.signExtend 64 else s.pc + 4)) ∧
  (DecodesTo 0x00007063 0x0000707F (fun w => .bgeu ⟨w⟩) ∧ decodeInstr 0xFEF77FE3#32 = .ok (.bgeu 14 15 0x1FFE) ∧
    ∀ (s : State) (rs1 rs2 : RegIdx) (imm : BitVec 13),
      ExecGoes (.bgeu rs1 rs2 imm) s (if (s.reg rs1).toNat ≥ (s.reg rs2).toNat then s.pc + imm.signExtend 64 else s.pc + 4))

/-- O42. Where the environment does not trap the access, each load writes rd with the bytes from x[rs1] + imm on, the
lowest address lowest: LB, LH, LW sign-extended, LBU, LHU, LWU zero-extended, LD all 64 bits; nothing else changes
but the pc; a byte load always completes (misaligned policy: log entry 8; bytes past the top of the address space
wrap: log entry 5; so does pc + 4: log entry 20). [R181, R182] -/
def Obligations.LoadResults : Prop :=
  (∀ (s : State) (rd rs1 : RegIdx) (imm : BitVec 12), 
      ExecSets (.lb rd rs1 imm) s rd ((s.mem.readByte (s.reg rs1 + imm.signExtend 64)).signExtend 64) (s.pc + 4)) ∧
  (∀ (s : State) (rd rs1 : RegIdx) (imm : BitVec 12), AccessAllowed s (s.reg rs1 + imm.signExtend 64) 2 →
      ExecSets (.lh rd rs1 imm) s rd ((s.mem.bytes2 (s.reg rs1 + imm.signExtend 64)).signExtend 64) (s.pc + 4)) ∧
  (∀ (s : State) (rd rs1 : RegIdx) (imm : BitVec 12), AccessAllowed s (s.reg rs1 + imm.signExtend 64) 4 →
      ExecSets (.lw rd rs1 imm) s rd ((s.mem.bytes4 (s.reg rs1 + imm.signExtend 64)).signExtend 64) (s.pc + 4)) ∧
  (∀ (s : State) (rd rs1 : RegIdx) (imm : BitVec 12), AccessAllowed s (s.reg rs1 + imm.signExtend 64) 8 →
      ExecSets (.ld rd rs1 imm) s rd (s.mem.bytes8 (s.reg rs1 + imm.signExtend 64)) (s.pc + 4)) ∧
  (∀ (s : State) (rd rs1 : RegIdx) (imm : BitVec 12), 
      ExecSets (.lbu rd rs1 imm) s rd ((s.mem.readByte (s.reg rs1 + imm.signExtend 64)).zeroExtend 64) (s.pc + 4)) ∧
  (∀ (s : State) (rd rs1 : RegIdx) (imm : BitVec 12), AccessAllowed s (s.reg rs1 + imm.signExtend 64) 2 →
      ExecSets (.lhu rd rs1 imm) s rd ((s.mem.bytes2 (s.reg rs1 + imm.signExtend 64)).zeroExtend 64) (s.pc + 4)) ∧
  (∀ (s : State) (rd rs1 : RegIdx) (imm : BitVec 12), AccessAllowed s (s.reg rs1 + imm.signExtend 64) 4 →
      ExecSets (.lwu rd rs1 imm) s rd ((s.mem.bytes4 (s.reg rs1 + imm.signExtend 64)).zeroExtend 64) (s.pc + 4))

/-- O43. Over memory in canonical form, where the environment does not trap the access, each store writes the low 1, 2, 4
or 8 bytes of x[rs2] from x[rs1] + imm on, the lowest byte first; every byte outside these reads as before, and
nothing else changes but the pc and the older memories a fetch may see (log entries 2, 5 and 8; pc + 4 wraps past the
top of the address space: log entry 20). [R181, R183] -/
def Obligations.StoreEffects : Prop :=
  (∀ (s : State) (rs1 : RegIdx) (imm : Word), s.effAddr rs1 imm = s.reg rs1 + imm) ∧
  (∀ (s : State) (rs1 rs2 : RegIdx) (imm : BitVec 12), s.mem.wf = true → 
      ExecStores (.sb rs1 rs2 imm) s (s.effAddr rs1 (simm imm)) 1 ((s.reg rs2).extractLsb' 0 8) (s.pc + 4)) ∧
  (∀ (s : State) (rs1 rs2 : RegIdx) (imm : BitVec 12), s.mem.wf = true → AccessAllowed s (s.effAddr rs1 (simm imm)) 2 →
      ExecStores (.sh rs1 rs2 imm) s (s.effAddr rs1 (simm imm)) 2 ((s.reg rs2).extractLsb' 0 16) (s.pc + 4)) ∧
  (∀ (s : State) (rs1 rs2 : RegIdx) (imm : BitVec 12), s.mem.wf = true → AccessAllowed s (s.effAddr rs1 (simm imm)) 4 →
      ExecStores (.sw rs1 rs2 imm) s (s.effAddr rs1 (simm imm)) 4 ((s.reg rs2).extractLsb' 0 32) (s.pc + 4)) ∧
  (∀ (s : State) (rs1 rs2 : RegIdx) (imm : BitVec 12), s.mem.wf = true → AccessAllowed s (s.effAddr rs1 (simm imm)) 8 →
      ExecStores (.sd rs1 rs2 imm) s (s.effAddr rs1 (simm imm)) 8 ((s.reg rs2).extractLsb' 0 64) (s.pc + 4))

/-- O44. Under the trapping policy an access whose address is no multiple of its width takes the load (4) or store (6)
address-misaligned exception, for every load and store of more than one byte, standard and compressed: no register is
written and every byte of memory reads as before (the policy is a parameter, log entry 8; mtval: log entry 10; trap
layout: log entry 11; machine mode from any mode: log entry 16). [R181, R382] -/
def Obligations.MisalignedAccessesTrap : Prop :=
  (∀ (s : State) (rd rs1 : RegIdx) (imm : BitVec 12), AccessTraps s (s.effAddr rs1 (simm imm)) 2 →
      ExecTrapsSomehow (.lh rd rs1 imm) s 4) ∧
  (∀ (s : State) (rd rs1 : RegIdx) (imm : BitVec 12), AccessTraps s (s.effAddr rs1 (simm imm)) 4 →
      ExecTrapsSomehow (.lw rd rs1 imm) s 4) ∧
  (∀ (s : State) (rd rs1 : RegIdx) (imm : BitVec 12), AccessTraps s (s.effAddr rs1 (simm imm)) 8 →
      ExecTrapsSomehow (.ld rd rs1 imm) s 4) ∧
  (∀ (s : State) (rd rs1 : RegIdx) (imm : BitVec 12), AccessTraps s (s.effAddr rs1 (simm imm)) 2 →
      ExecTrapsSomehow (.lhu rd rs1 imm) s 4) ∧
  (∀ (s : State) (rd rs1 : RegIdx) (imm : BitVec 12), AccessTraps s (s.effAddr rs1 (simm imm)) 4 →
      ExecTrapsSomehow (.lwu rd rs1 imm) s 4) ∧
  (∀ (s : State) (rs1 rs2 : RegIdx) (imm : BitVec 12), AccessTraps s (s.effAddr rs1 (simm imm)) 2 →
      ExecTrapsSomehow (.sh rs1 rs2 imm) s 6) ∧
  (∀ (s : State) (rs1 rs2 : RegIdx) (imm : BitVec 12), AccessTraps s (s.effAddr rs1 (simm imm)) 4 →
      ExecTrapsSomehow (.sw rs1 rs2 imm) s 6) ∧
  (∀ (s : State) (rs1 rs2 : RegIdx) (imm : BitVec 12), AccessTraps s (s.effAddr rs1 (simm imm)) 8 →
      ExecTrapsSomehow (.sd rs1 rs2 imm) s 6) ∧
  (∀ (s : State) (rdp rs1p : PopIdx) (off : BitVec 7), AccessTraps s (s.effAddr (popular rs1p) (uimm off)) 4 →
      ExecTrapsSomehow (.cLw rdp rs1p off) s 4) ∧
  (∀ (s : State) (rdp rs1p : PopIdx) (off : BitVec 8), AccessTraps s (s.effAddr (popular rs1p) (uimm off)) 8 →
      ExecTrapsSomehow (.cLd rdp rs1p off) s 4) ∧
  (∀ (s : State) (rs1p rs2p : PopIdx) (off : BitVec 7), AccessTraps s (s.effAddr (popular rs1p) (uimm off)) 4 →
      ExecTrapsSomehow (.cSw rs1p rs2p off) s 6) ∧
  (∀ (s : State) (rs1p rs2p : PopIdx) (off : BitVec 8), AccessTraps s (s.effAddr (popular rs1p) (uimm off)) 8 →
      ExecTrapsSomehow (.cSd rs1p rs2p off) s 6) ∧
  (∀ (s : State) (rd : RegIdx) (off : BitVec 8), s.params.compressedPath = .expand →
      AccessTraps s (s.effAddr 2 (uimm off)) 4 → ExecTrapsSomehow (.cLwsp rd off) s 4) ∧
  (∀ (s : State) (rd : RegIdx) (off : BitVec 9), s.params.compressedPath = .expand →
      AccessTraps s (s.effAddr 2 (uimm off)) 8 → ExecTrapsSomehow (.cLdsp rd off) s 4) ∧
  (∀ (s : State) (rs2 : RegIdx) (off : BitVec 8), s.params.compressedPath = .expand →
      AccessTraps s (s.effAddr 2 (uimm off)) 4 → ExecTrapsSomehow (.cSwsp rs2 off) s 6) ∧
  (∀ (s : State) (rs2 : RegIdx) (off : BitVec 9), s.params.compressedPath = .expand →
      AccessTraps s (s.effAddr 2 (uimm off)) 8 → ExecTrapsSomehow (.cSdsp rs2 off) s 6)

/-- O45. Each register-immediate instruction's match and mask decode to its variant, with its rule's example; it writes
rd with the sum, the comparison as 1 or 0 (signed, or unsigned after sign-extending the immediate), the bitwise
result, or the shift of x[rs1] by shamt, and changes nothing else but the pc, which goes to pc + 4 (it wraps past the
top of the address space, the model's choice: log entry 20). [R190, R191, R192, R193, R194, R195, R196, R197, R198] -/
def Obligations.ImmediateArithmetic : Prop :=
  (DecodesTo 0x00000013 0x0000707F (fun w => .addi ⟨w⟩) ∧ decodeInstr 0xFFF50513#32 = .ok (.addi 10 10 0xFFF) ∧
    ∀ (s : State) (rd rs1 : RegIdx) (imm : BitVec 12), ExecSets (.addi rd rs1 imm) s rd
      (s.reg rs1 + imm.signExtend 64) (s.pc + 4)) ∧
  (DecodesTo 0x00002013 0x0000707F (fun w => .slti ⟨w⟩) ∧ decodeInstr 0xFFB32393#32 = .ok (.slti 7 6 0xFFB) ∧
    ∀ (s : State) (rd rs1 : RegIdx) (imm : BitVec 12), ExecSets (.slti rd rs1 imm) s rd
      (if (s.reg rs1).toInt < imm.toInt then 1 else 0) (s.pc + 4)) ∧
  (DecodesTo 0x00003013 0x0000707F (fun w => .sltiu ⟨w⟩) ∧ decodeInstr 0x0015B513#32 = .ok (.sltiu 10 11 1) ∧
    ∀ (s : State) (rd rs1 : RegIdx) (imm : BitVec 12), ExecSets (.sltiu rd rs1 imm) s rd
      (if (s.reg rs1).toNat < (imm.signExtend 64).toNat then 1 else 0) (s.pc + 4)) ∧
  (DecodesTo 0x00004013 0x0000707F (fun w => .xori ⟨w⟩) ∧ decodeInstr 0xFFF64613#32 = .ok (.xori 12 12 0xFFF) ∧
    ∀ (s : State) (rd rs1 : RegIdx) (imm : BitVec 12), ExecSets (.xori rd rs1 imm) s rd
      (s.reg rs1 ^^^ imm.signExtend 64) (s.pc + 4)) ∧
  (DecodesTo 0x00006013 0x0000707F (fun w => .ori ⟨w⟩) ∧ decodeInstr 0x7FF0E113#32 = .ok (.ori 2 1 2047) ∧
    ∀ (s : State) (rd rs1 : RegIdx) (imm : BitVec 12), ExecSets (.ori rd rs1 imm) s rd
      (s.reg rs1 ||| imm.signExtend 64) (s.pc + 4)) ∧
  (DecodesTo 0x00007013 0x0000707F (fun w => .andi ⟨w⟩) ∧ decodeInstr 0x0FF57513#32 = .ok (.andi 10 10 255) ∧
    ∀ (s : State) (rd rs1 : RegIdx) (imm : BitVec 12), ExecSets (.andi rd rs1 imm) s rd
      (s.reg rs1 &&& imm.signExtend 64) (s.pc + 4)) ∧
  (DecodesTo 0x00001013 0xFC00707F (fun w => .slli ⟨w⟩) ∧ decodeInstr 0x03F29293#32 = .ok (.slli 5 5 63) ∧
    ∀ (s : State) (rd rs1 : RegIdx) (shamt : BitVec 6), ExecSets (.slli rd rs1 shamt) s rd
      (BitVec.ofNat 64 ((s.reg rs1).toNat * 2 ^ shamt.toNat)) (s.pc + 4)) ∧
  (DecodesTo 0x00005013 0xFC00707F (fun w => .srli ⟨w⟩) ∧ decodeInstr 0x02035313#32 = .ok (.srli 6 6 32) ∧
    ∀ (s : State) (rd rs1 : RegIdx) (shamt : BitVec 6), ExecSets (.srli rd rs1 shamt) s rd
      (BitVec.ofNat 64 ((s.reg rs1).toNat / 2 ^ shamt.toNat)) (s.pc + 4)) ∧
  (DecodesTo 0x40005013 0xFC00707F (fun w => .srai ⟨w⟩) ∧ decodeInstr 0x4013D393#32 = .ok (.srai 7 7 1) ∧
    ∀ (s : State) (rd rs1 : RegIdx) (shamt : BitVec 6), ExecSets (.srai rd rs1 shamt) s rd
      (BitVec.ofInt 64 ((s.reg rs1).toInt / 2 ^ shamt.toNat)) (s.pc + 4)) ∧
  decodeInstr 0x00000013#32 = .ok (.addi 0 0 0)

/-- O46. Each base register-register instruction's match and mask decode to its variant, with its rule's example; it
writes rd with the sum, the difference, the shift by the low six bits of x[rs2], the comparison as 1 or 0, or the
bitwise result, and changes nothing else but the pc, which goes to pc + 4 (it wraps past the top of the address
space, the model's choice: log entry 20). [R210, R211, R212, R213, R214, R215, R216, R217, R218, R219] -/
def Obligations.RegisterArithmetic : Prop :=
  (DecodesTo 0x00000033 0xFE00707F (fun w => .add ⟨w⟩) ∧ decodeInstr 0x00C58533#32 = .ok (.add 10 11 12) ∧
    ∀ (s : State) (rd rs1 rs2 : RegIdx), ExecSets (.add rd rs1 rs2) s rd
      (s.reg rs1 + s.reg rs2) (s.pc + 4)) ∧
  (DecodesTo 0x40000033 0xFE00707F (fun w => .sub ⟨w⟩) ∧ decodeInstr 0x40C58533#32 = .ok (.sub 10 11 12) ∧
    ∀ (s : State) (rd rs1 rs2 : RegIdx), ExecSets (.sub rd rs1 rs2) s rd
      (s.reg rs1 - s.reg rs2) (s.pc + 4)) ∧
  (DecodesTo 0x00001033 0xFE00707F (fun w => .sll ⟨w⟩) ∧ decodeInstr 0x00C59533#32 = .ok (.sll 10 11 12) ∧
    ∀ (s : State) (rd rs1 rs2 : RegIdx), ExecSets (.sll rd rs1 rs2) s rd
      (BitVec.ofNat 64 ((s.reg rs1).toNat * 2 ^ ((s.reg rs2).toNat % 64))) (s.pc + 4)) ∧
  (DecodesTo 0x00002033 0xFE00707F (fun w => .slt ⟨w⟩) ∧ decodeInstr 0x00C5A533#32 = .ok (.slt 10 11 12) ∧
    ∀ (s : State) (rd rs1 rs2 : RegIdx), ExecSets (.slt rd rs1 rs2) s rd
      (if (s.reg rs1).toInt < (s.reg rs2).toInt then 1 else 0) (s.pc + 4)) ∧
  (DecodesTo 0x00003033 0xFE00707F (fun w => .sltu ⟨w⟩) ∧ decodeInstr 0x00C5B533#32 = .ok (.sltu 10 11 12) ∧
    ∀ (s : State) (rd rs1 rs2 : RegIdx), ExecSets (.sltu rd rs1 rs2) s rd
      (if (s.reg rs1).toNat < (s.reg rs2).toNat then 1 else 0) (s.pc + 4)) ∧
  (DecodesTo 0x00004033 0xFE00707F (fun w => .xor ⟨w⟩) ∧ decodeInstr 0x00C5C533#32 = .ok (.xor 10 11 12) ∧
    ∀ (s : State) (rd rs1 rs2 : RegIdx), ExecSets (.xor rd rs1 rs2) s rd
      (s.reg rs1 ^^^ s.reg rs2) (s.pc + 4)) ∧
  (DecodesTo 0x00005033 0xFE00707F (fun w => .srl ⟨w⟩) ∧ decodeInstr 0x00C5D533#32 = .ok (.srl 10 11 12) ∧
    ∀ (s : State) (rd rs1 rs2 : RegIdx), ExecSets (.srl rd rs1 rs2) s rd
      (BitVec.ofNat 64 ((s.reg rs1).toNat / 2 ^ ((s.reg rs2).toNat % 64))) (s.pc + 4)) ∧
  (DecodesTo 0x40005033 0xFE00707F (fun w => .sra ⟨w⟩) ∧ decodeInstr 0x40C5D533#32 = .ok (.sra 10 11 12) ∧
    ∀ (s : State) (rd rs1 rs2 : RegIdx), ExecSets (.sra rd rs1 rs2) s rd
      (BitVec.ofInt 64 ((s.reg rs1).toInt / 2 ^ ((s.reg rs2).toNat % 64))) (s.pc + 4)) ∧
  (DecodesTo 0x00006033 0xFE00707F (fun w => .or ⟨w⟩) ∧ decodeInstr 0x00C5E533#32 = .ok (.or 10 11 12) ∧
    ∀ (s : State) (rd rs1 rs2 : RegIdx), ExecSets (.or rd rs1 rs2) s rd
      (s.reg rs1 ||| s.reg rs2) (s.pc + 4)) ∧
  (DecodesTo 0x00007033 0xFE00707F (fun w => .and ⟨w⟩) ∧ decodeInstr 0x00C5F533#32 = .ok (.and 10 11 12) ∧
    ∀ (s : State) (rd rs1 rs2 : RegIdx), ExecSets (.and rd rs1 rs2) s rd
      (s.reg rs1 &&& s.reg rs2) (s.pc + 4))

/-- O47. Each multiply's match and mask decode to its variant, with its rule's example; MUL writes the low half of the
product, MULH, MULHSU and MULHU the high half of the signed, signed by unsigned, and unsigned 128-bit product, and
nothing else changes but the pc, which goes to pc + 4 (it wraps past the top of the address space, the model's
choice: log entry 20). [R220, R221, R222, R223] -/
def Obligations.MultiplyResults : Prop :=
  (DecodesTo 0x02000033 0xFE00707F (fun w => .mul ⟨w⟩) ∧ decodeInstr 0x02C58533#32 = .ok (.mul 10 11 12) ∧
    ∀ (s : State) (rd rs1 rs2 : RegIdx), ExecSets (.mul rd rs1 rs2) s rd
      ((((s.reg rs1).zeroExtend 128) * ((s.reg rs2).zeroExtend 128)).extractLsb' 0 64) (s.pc + 4)) ∧
  (DecodesTo 0x02001033 0xFE00707F (fun w => .mulh ⟨w⟩) ∧ decodeInstr 0x02C59533#32 = .ok (.mulh 10 11 12) ∧
    ∀ (s : State) (rd rs1 rs2 : RegIdx), ExecSets (.mulh rd rs1 rs2) s rd
      ((((s.reg rs1).signExtend 128) * ((s.reg rs2).signExtend 128)).extractLsb' 64 64) (s.pc + 4)) ∧
  (DecodesTo 0x02002033 0xFE00707F (fun w => .mulhsu ⟨w⟩) ∧ decodeInstr 0x02C5A533#32 = .ok (.mulhsu 10 11 12) ∧
    ∀ (s : State) (rd rs1 rs2 : RegIdx), ExecSets (.mulhsu rd rs1 rs2) s rd
      ((((s.reg rs1).signExtend 128) * ((s.reg rs2).zeroExtend 128)).extractLsb' 64 64) (s.pc + 4)) ∧
  (DecodesTo 0x02003033 0xFE00707F (fun w => .mulhu ⟨w⟩) ∧ decodeInstr 0x02C5B533#32 = .ok (.mulhu 10 11 12) ∧
    ∀ (s : State) (rd rs1 rs2 : RegIdx), ExecSets (.mulhu rd rs1 rs2) s rd
      ((((s.reg rs1).zeroExtend 128) * ((s.reg rs2).zeroExtend 128)).extractLsb' 64 64) (s.pc + 4))

/-- O48. Each division's match and mask decode to its variant, with its rule's example; DIV rounds toward zero and REM
has the sign of the dividend; a zero divisor gives all ones and the dividend; the most negative value by -1 gives
itself and 0; no form traps, and nothing else changes but the pc, which goes to pc + 4 (it wraps past the top of the
address space, the model's choice: log entry 20). [R224, R225, R226, R227] -/
def Obligations.DivideResults : Prop :=
  (DecodesTo 0x02004033 0xFE00707F (fun w => .div ⟨w⟩) ∧ decodeInstr 0x02C5C533#32 = .ok (.div 10 11 12) ∧
    ∀ (s : State) (rd rs1 rs2 : RegIdx), ExecSets (.div rd rs1 rs2) s rd
      (divRule (s.reg rs1) (s.reg rs2)) (s.pc + 4)) ∧
  (DecodesTo 0x02005033 0xFE00707F (fun w => .divu ⟨w⟩) ∧ decodeInstr 0x02C5D533#32 = .ok (.divu 10 11 12) ∧
    ∀ (s : State) (rd rs1 rs2 : RegIdx), ExecSets (.divu rd rs1 rs2) s rd
      (divuRule (s.reg rs1) (s.reg rs2)) (s.pc + 4)) ∧
  (DecodesTo 0x02006033 0xFE00707F (fun w => .rem ⟨w⟩) ∧ decodeInstr 0x02C5E533#32 = .ok (.rem 10 11 12) ∧
    ∀ (s : State) (rd rs1 rs2 : RegIdx), ExecSets (.rem rd rs1 rs2) s rd
      (remRule (s.reg rs1) (s.reg rs2)) (s.pc + 4)) ∧
  (DecodesTo 0x02007033 0xFE00707F (fun w => .remu ⟨w⟩) ∧ decodeInstr 0x02C5F533#32 = .ok (.remu 10 11 12) ∧
    ∀ (s : State) (rd rs1 rs2 : RegIdx), ExecSets (.remu rd rs1 rs2) s rd
      (remuRule (s.reg rs1) (s.reg rs2)) (s.pc + 4))

/-- O49. Each word shift's match and mask decode to its variant, with its rule's example; it writes rd with the low 32
bits of x[rs1] shifted by shamt, the 32-bit result sign-extended to 64, and changes nothing else but the pc, which
goes to pc + 4 (it wraps past the top of the address space, the model's choice: log entry 20). [R241, R242, R243] -/
def Obligations.WordImmediateShifts : Prop :=
  (DecodesTo 0x0000101B 0xFE00707F (fun w => .slliw ⟨w⟩) ∧ decodeInstr 0x01F5151B#32 = .ok (.slliw 10 10 31) ∧
    ∀ (s : State) (rd rs1 : RegIdx) (shamt : BitVec 5), ExecSets (.slliw rd rs1 shamt) s rd
      ((BitVec.ofNat 32 (((s.reg rs1).toNat % 2 ^ 32) * 2 ^ shamt.toNat)).signExtend 64) (s.pc + 4)) ∧
  (DecodesTo 0x0000501B 0xFE00707F (fun w => .srliw ⟨w⟩) ∧ decodeInstr 0x0015559B#32 = .ok (.srliw 11 10 1) ∧
    ∀ (s : State) (rd rs1 : RegIdx) (shamt : BitVec 5), ExecSets (.srliw rd rs1 shamt) s rd
      ((BitVec.ofNat 32 (((s.reg rs1).toNat % 2 ^ 32) / 2 ^ shamt.toNat)).signExtend 64) (s.pc + 4)) ∧
  (DecodesTo 0x4000501B 0xFE00707F (fun w => .sraiw ⟨w⟩) ∧ decodeInstr 0x41F5551B#32 = .ok (.sraiw 10 10 31) ∧
    ∀ (s : State) (rd rs1 : RegIdx) (shamt : BitVec 5), ExecSets (.sraiw rd rs1 shamt) s rd
      (BitVec.ofInt 64 (((s.reg rs1).extractLsb' 0 32).toInt / 2 ^ shamt.toNat)) (s.pc + 4))

/-- O50. ADDIW writes the low 32 bits of x[rs1] + imm sign-extended; each word register-register instruction, the
divisions and remainders with their corner table among them, does its operation on the low 32 bits of its operands,
shifts by the low five bits of x[rs2], and writes the 32-bit result sign-extended; nothing else changes but the pc,
which goes to pc + 4 (it wraps past the top of the address space, the model's choice: log entry 20). [R240, R255,
R228] -/
def Obligations.WordArithmetic : Prop :=
  (∀ (s : State) (rd rs1 : RegIdx) (imm : BitVec 12), ExecSets (.addiw rd rs1 imm) s rd
      (((s.reg rs1 + imm.signExtend 64).extractLsb' 0 32).signExtend 64) (s.pc + 4)) ∧
  (∀ (s : State) (rd rs1 rs2 : RegIdx), ExecSets (.addw rd rs1 rs2) s rd
      ((((s.reg rs1).extractLsb' 0 32) + ((s.reg rs2).extractLsb' 0 32)).signExtend 64) (s.pc + 4)) ∧
  (∀ (s : State) (rd rs1 rs2 : RegIdx), ExecSets (.subw rd rs1 rs2) s rd
      ((((s.reg rs1).extractLsb' 0 32) - ((s.reg rs2).extractLsb' 0 32)).signExtend 64) (s.pc + 4)) ∧
  (∀ (s : State) (rd rs1 rs2 : RegIdx), ExecSets (.sllw rd rs1 rs2) s rd
      ((BitVec.ofNat 32 (((s.reg rs1).toNat % 2 ^ 32) * 2 ^ ((s.reg rs2).toNat % 32))).signExtend 64) (s.pc + 4)) ∧
  (∀ (s : State) (rd rs1 rs2 : RegIdx), ExecSets (.srlw rd rs1 rs2) s rd
      ((BitVec.ofNat 32 (((s.reg rs1).toNat % 2 ^ 32) / 2 ^ ((s.reg rs2).toNat % 32))).signExtend 64) (s.pc + 4)) ∧
  (∀ (s : State) (rd rs1 rs2 : RegIdx), ExecSets (.sraw rd rs1 rs2) s rd
      (BitVec.ofInt 64 (((s.reg rs1).extractLsb' 0 32).toInt / 2 ^ ((s.reg rs2).toNat % 32))) (s.pc + 4)) ∧
  (∀ (s : State) (rd rs1 rs2 : RegIdx), ExecSets (.mulw rd rs1 rs2) s rd
      ((((s.reg rs1).extractLsb' 0 32) * ((s.reg rs2).extractLsb' 0 32)).signExtend 64) (s.pc + 4)) ∧
  (∀ (s : State) (rd rs1 rs2 : RegIdx), ExecSets (.divw rd rs1 rs2) s rd
      ((divRule ((s.reg rs1).extractLsb' 0 32) ((s.reg rs2).extractLsb' 0 32)).signExtend 64) (s.pc + 4)) ∧
  (∀ (s : State) (rd rs1 rs2 : RegIdx), ExecSets (.divuw rd rs1 rs2) s rd
      ((divuRule ((s.reg rs1).extractLsb' 0 32) ((s.reg rs2).extractLsb' 0 32)).signExtend 64) (s.pc + 4)) ∧
  (∀ (s : State) (rd rs1 rs2 : RegIdx), ExecSets (.remw rd rs1 rs2) s rd
      ((remRule ((s.reg rs1).extractLsb' 0 32) ((s.reg rs2).extractLsb' 0 32)).signExtend 64) (s.pc + 4)) ∧
  (∀ (s : State) (rd rs1 rs2 : RegIdx), ExecSets (.remuw rd rs1 rs2) s rd
      ((remuRule ((s.reg rs1).extractLsb' 0 32) ((s.reg rs2).extractLsb' 0 32)).signExtend 64) (s.pc + 4))

/-- O51. FENCE, at every mask and mode, changes nothing but the pc in one in-order hart; FENCE.I changes nothing but the
pc and drops the older memories, so that the next fetch is memory's word at the new pc (one in-order hart sees
nothing of FENCE's order: log entry 13; the older memories: log entry 2; pc + 4 wraps past the top of the address
space: log entry 20). [R260, R261, R53] -/
def Obligations.FenceEffects : Prop :=
  (∀ (s : State) (rd rs1 : RegIdx) (fm pred succ : BitVec 4), ExecGoes (.fence rd rs1 fm pred succ) s (s.pc + 4)) ∧
  (∀ (s : State) (rd rs1 : RegIdx) (imm : BitVec 12), Completes (exec (.fenceI rd rs1 imm) s)
    (fun t => SyncEffect s t (s.pc + 4) ∧ t.fetchWord = s.mem.read (s.pc + 4) 4))

/-- O52. ECALL takes the environment-call exception of the current mode, code 8, 9 or 11, and EBREAK, C.EBREAK on the
expand path among it, the breakpoint exception, code 3; each saves its own pc, records some value in mtval (log entry
10), and changes nothing beyond trap entry (layout: log entry 11; machine mode from any mode: log entry 16). [R383,
R386, R262, R263] -/
def Obligations.EnvironmentCallAndBreakpoint : Prop :=
  (∀ s : State, ExecTrapsSomehow .ecall s (match s.mode with | .user => 8 | .supervisor => 9 | .machine => 11)) ∧
  (∀ s : State, ExecTrapsSomehow .ebreak s 3) ∧
  (∀ s : State, s.params.compressedPath = .expand → ExecTrapsSomehow .cEbreak s 3)

/-- O53. The all-zero form and C.FLD, C.FSD, C.FLDSP and C.FSDSP at every operand take the illegal-instruction exception,
code 2, and record their bits or 0 as ILLEGAL_TVAL says; on both compressed paths (trap layout: log entry 11; machine
mode from any mode: log entry 16). [R381, R386, R307] -/
def Obligations.UndecodedFormsTrap : Prop :=
  (∀ s : State, ExecTraps .illegal s 2 0) ∧
  (∀ (s : State) (rdp rs1p : PopIdx) (hi : BitVec 3) (lo : BitVec 2),
    ExecTraps (.cFld rdp rs1p hi lo) s 2 (tvalOf s (0#16 ++ (0b001#3 ++ hi ++ rs1p ++ lo ++ rdp ++ 0b00#2)))) ∧
  (∀ (s : State) (rs1p rs2p : PopIdx) (hi : BitVec 3) (lo : BitVec 2),
    ExecTraps (.cFsd rs1p rs2p hi lo) s 2 (tvalOf s (0#16 ++ (0b101#3 ++ hi ++ rs1p ++ lo ++ rs2p ++ 0b00#2)))) ∧
  (∀ (s : State) (rd : RegIdx) (hi : BitVec 1) (lo : BitVec 5),
    ExecTraps (.cFldsp rd hi lo) s 2 (tvalOf s (0#16 ++ (0b001#3 ++ hi ++ rd ++ lo ++ 0b10#2)))) ∧
  (∀ (s : State) (rs2 : RegIdx) (hi : BitVec 6),
    ExecTraps (.cFsdsp rs2 hi) s 2 (tvalOf s (0#16 ++ (0b101#3 ++ hi ++ rs2 ++ 0b10#2))))

/-- O54. Where the hart allows the access, over canonical CSRs, each CSR instruction writes rd with what the CSR held and
the CSR with its new value: x[rs1] or zimm, the old value with their bits set, or with their bits cleared; CSRRS,
CSRRC, CSRRSI and CSRRCI with rs1 = x0 or zimm = 0 write no CSR; every other CSR and everything else but the pc is
unchanged (which CSRs exist: log entry 6; CSRs keep all bits: log entry 12; counters read a free value: log entry 7;
CSR numbers and mode codes: log entry 11; csr[9:8] = 10: log entry 19; pc + 4 wraps past the top of the address
space: log entry 20). [R270, R273, R264, R265, R266, R267, R268, R269] -/
def Obligations.CsrAccessResults : Prop :=
  (∀ (s : State) (rd rs1 : RegIdx) (csr : CsrIdx), Cells.wf 0#64 0xC00 s.csrs = true → CsrAllowed s csr (True) →
    ExecCsr (.csrrw rd rs1 csr) s rd csr (some (s.reg rs1)) (s.pc + 4)) ∧
  (∀ (s : State) (rd rs1 : RegIdx) (csr : CsrIdx), Cells.wf 0#64 0xC00 s.csrs = true → CsrAllowed s csr (rs1 ≠ 0) →
    ExecCsr (.csrrs rd rs1 csr) s rd csr (if rs1 = 0 then none else some (s.readCsr csr ||| s.reg rs1)) (s.pc + 4)) ∧
  (∀ (s : State) (rd rs1 : RegIdx) (csr : CsrIdx), Cells.wf 0#64 0xC00 s.csrs = true → CsrAllowed s csr (rs1 ≠ 0) →
    ExecCsr (.csrrc rd rs1 csr) s rd csr (if rs1 = 0 then none else some (s.readCsr csr &&& ~~~(s.reg rs1))) (s.pc + 4)) ∧
  (∀ (s : State) (rd : RegIdx) (zimm : BitVec 5) (csr : CsrIdx), Cells.wf 0#64 0xC00 s.csrs = true → CsrAllowed s csr (True) →
    ExecCsr (.csrrwi rd zimm csr) s rd csr (some (zimm.zeroExtend 64)) (s.pc + 4)) ∧
  (∀ (s : State) (rd : RegIdx) (zimm : BitVec 5) (csr : CsrIdx), Cells.wf 0#64 0xC00 s.csrs = true → CsrAllowed s csr (zimm ≠ 0) →
    ExecCsr (.csrrsi rd zimm csr) s rd csr (if zimm = 0 then none else some (s.readCsr csr ||| zimm.zeroExtend 64)) (s.pc + 4)) ∧
  (∀ (s : State) (rd : RegIdx) (zimm : BitVec 5) (csr : CsrIdx), Cells.wf 0#64 0xC00 s.csrs = true → CsrAllowed s csr (zimm ≠ 0) →
    ExecCsr (.csrrci rd zimm csr) s rd csr (if zimm = 0 then none else some (s.readCsr csr &&& ~~~(zimm.zeroExtend 64))) (s.pc + 4))

/-- O55. Where the CSR is absent, the mode too low, or a write goes to a read-only CSR (csr[11:10] = 11), each CSR
instruction takes the illegal-instruction exception, code 2, recording its own word or 0: no register and no CSR
outside trap entry changes (absent CSRs: log entry 6; mode codes and trap layout: log entry 11; machine mode from any
mode: log entry 16; csr[9:8] = 10: log entry 19). [R270, R381] -/
def Obligations.CsrAccessRefusedTraps : Prop :=
  (∀ (s : State) (rd rs1 : RegIdx) (csr : CsrIdx), ¬ CsrAllowed s csr (True) →
    ExecTraps (.csrrw rd rs1 csr) s 2 (tvalOf s (csr ++ rs1 ++ 0b001#3 ++ rd ++ 0b1110011#7))) ∧
  (∀ (s : State) (rd rs1 : RegIdx) (csr : CsrIdx), ¬ CsrAllowed s csr (rs1 ≠ 0) →
    ExecTraps (.csrrs rd rs1 csr) s 2 (tvalOf s (csr ++ rs1 ++ 0b010#3 ++ rd ++ 0b1110011#7))) ∧
  (∀ (s : State) (rd rs1 : RegIdx) (csr : CsrIdx), ¬ CsrAllowed s csr (rs1 ≠ 0) →
    ExecTraps (.csrrc rd rs1 csr) s 2 (tvalOf s (csr ++ rs1 ++ 0b011#3 ++ rd ++ 0b1110011#7))) ∧
  (∀ (s : State) (rd : RegIdx) (zimm : BitVec 5) (csr : CsrIdx), ¬ CsrAllowed s csr (True) →
    ExecTraps (.csrrwi rd zimm csr) s 2 (tvalOf s (csr ++ zimm ++ 0b101#3 ++ rd ++ 0b1110011#7))) ∧
  (∀ (s : State) (rd : RegIdx) (zimm : BitVec 5) (csr : CsrIdx), ¬ CsrAllowed s csr (zimm ≠ 0) →
    ExecTraps (.csrrsi rd zimm csr) s 2 (tvalOf s (csr ++ zimm ++ 0b110#3 ++ rd ++ 0b1110011#7))) ∧
  (∀ (s : State) (rd : RegIdx) (zimm : BitVec 5) (csr : CsrIdx), ¬ CsrAllowed s csr (zimm ≠ 0) →
    ExecTraps (.csrrci rd zimm csr) s 2 (tvalOf s (csr ++ zimm ++ 0b111#3 ++ rd ++ 0b1110011#7)))

/-- O56. On the expand path each compressed arithmetic form writes its one register, named directly or as field plus 8,
with the result of the instruction it abbreviates, goes to pc + 2, and changes nothing else; C.NOP changes only the
pc (pc + 2 wraps past the top of the address space, the model's choice: log entry 20). [48_compressed_expander.md
section 2, R97, R308] -/
def Obligations.CompressedArithmetic : Prop :=
  (∀ (s : State) (rdp : PopIdx) (n : BitVec 10), s.params.compressedPath = .expand →
    ExecSets (.cAddi4spn rdp n) s (popular rdp) (s.reg 2 + n.zeroExtend 64) (s.pc + 2)) ∧
  (∀ s : State, s.params.compressedPath = .expand → ExecGoes .cNop s (s.pc + 2)) ∧
  (∀ (s : State) (rd : RegIdx) (n : BitVec 6), s.params.compressedPath = .expand →
    ExecSets (.cAddi rd n) s rd (s.reg rd + n.signExtend 64) (s.pc + 2)) ∧
  (∀ (s : State) (rd : RegIdx) (n : BitVec 6), s.params.compressedPath = .expand →
    ExecSets (.cAddiw rd n) s rd (((s.reg rd + n.signExtend 64).extractLsb' 0 32).signExtend 64) (s.pc + 2)) ∧
  (∀ (s : State) (rd : RegIdx) (n : BitVec 6), s.params.compressedPath = .expand →
    ExecSets (.cLi rd n) s rd (n.signExtend 64) (s.pc + 2)) ∧
  (∀ (s : State) (n : BitVec 10), s.params.compressedPath = .expand →
    ExecSets (.cAddi16sp n) s 2 (s.reg 2 + n.signExtend 64) (s.pc + 2)) ∧
  (∀ (s : State) (rd : RegIdx) (n : BitVec 6), s.params.compressedPath = .expand →
    ExecSets (.cLui rd n) s rd (n.signExtend 64 <<< 12) (s.pc + 2)) ∧
  (∀ (s : State) (rdp : PopIdx) (n : BitVec 6), s.params.compressedPath = .expand →
    ExecSets (.cSrli rdp n) s (popular rdp) (BitVec.ofNat 64 ((s.reg (popular rdp)).toNat / 2 ^ n.toNat)) (s.pc + 2)) ∧
  (∀ (s : State) (rdp : PopIdx) (n : BitVec 6), s.params.compressedPath = .expand →
    ExecSets (.cSrai rdp n) s (popular rdp) (BitVec.ofInt 64 ((s.reg (popular rdp)).toInt / 2 ^ n.toNat)) (s.pc + 2)) ∧
  (∀ (s : State) (rdp : PopIdx) (n : BitVec 6), s.params.compressedPath = .expand →
    ExecSets (.cAndi rdp n) s (popular rdp) (s.reg (popular rdp) &&& n.signExtend 64) (s.pc + 2)) ∧
  (∀ (s : State) (rdp rs2p : PopIdx), s.params.compressedPath = .expand →
    ExecSets (.cSub rdp rs2p) s (popular rdp) (s.reg (popular rdp) - s.reg (popular rs2p)) (s.pc + 2)) ∧
  (∀ (s : State) (rdp rs2p : PopIdx), s.params.compressedPath = .expand →
    ExecSets (.cXor rdp rs2p) s (popular rdp) (s.reg (popular rdp) ^^^ s.reg (popular rs2p)) (s.pc + 2)) ∧
  (∀ (s : State) (rdp rs2p : PopIdx), s.params.compressedPath = .expand →
    ExecSets (.cOr rdp rs2p) s (popular rdp) (s.reg (popular rdp) ||| s.reg (popular rs2p)) (s.pc + 2)) ∧
  (∀ (s : State) (rdp rs2p : PopIdx), s.params.compressedPath = .expand →
    ExecSets (.cAnd rdp rs2p) s (popular rdp) (s.reg (popular rdp) &&& s.reg (popular rs2p)) (s.pc + 2)) ∧
  (∀ (s : State) (rdp rs2p : PopIdx), s.params.compressedPath = .expand →
    ExecSets (.cSubw rdp rs2p) s (popular rdp) (((s.reg (popular rdp)).extractLsb' 0 32 - (s.reg (popular rs2p)).extractLsb' 0 32).signExtend 64) (s.pc + 2)) ∧
  (∀ (s : State) (rdp rs2p : PopIdx), s.params.compressedPath = .expand →
    ExecSets (.cAddw rdp rs2p) s (popular rdp) (((s.reg (popular rdp)).extractLsb' 0 32 + (s.reg (popular rs2p)).extractLsb' 0 32).signExtend 64) (s.pc + 2)) ∧
  (∀ (s : State) (rd : RegIdx) (n : BitVec 6), s.params.compressedPath = .expand →
    ExecSets (.cSlli rd n) s rd (BitVec.ofNat 64 ((s.reg rd).toNat * 2 ^ n.toNat)) (s.pc + 2)) ∧
  (∀ (s : State) (rd rs2 : RegIdx), s.params.compressedPath = .expand →
    ExecSets (.cMv rd rs2) s rd (s.reg rs2) (s.pc + 2)) ∧
  (∀ (s : State) (rd rs2 : RegIdx), s.params.compressedPath = .expand →
    ExecSets (.cAdd rd rs2) s rd (s.reg rd + s.reg rs2) (s.pc + 2)) ∧
  (∀ p : PopIdx, (popular p).toNat = p.toNat + 8)

/-- O57. On the expand path C.J goes to pc + off; C.BEQZ and C.BNEZ go there when the register is, or is not, zero and to
pc + 2 otherwise; C.JR goes to x[rs1] with bit 0 cleared, and C.JALR also links pc + 2 in x1, its target read before;
nothing else changes (pc + 2 wraps past the top of the address space, the model's choice: log entry 20). [R308, R161,
R152, R153] -/
def Obligations.CompressedControl : Prop :=
  (∀ (s : State) (off : BitVec 12), s.params.compressedPath = .expand →
    ExecGoes (.cJ off) s (s.pc + off.signExtend 64)) ∧
  (∀ (s : State) (rs1p : PopIdx) (off : BitVec 9), s.params.compressedPath = .expand →
    ExecGoes (.cBeqz rs1p off) s (if s.reg (popular rs1p) = 0 then s.pc + off.signExtend 64 else s.pc + 2)) ∧
  (∀ (s : State) (rs1p : PopIdx) (off : BitVec 9), s.params.compressedPath = .expand →
    ExecGoes (.cBnez rs1p off) s (if s.reg (popular rs1p) ≠ 0 then s.pc + off.signExtend 64 else s.pc + 2)) ∧
  (∀ (s : State) (rs1 : RegIdx), s.params.compressedPath = .expand →
    ExecGoes (.cJr rs1) s (s.reg rs1 &&& ~~~1#64)) ∧
  (∀ (s : State) (rs1 : RegIdx), s.params.compressedPath = .expand →
    ExecSets (.cJalr rs1) s 1 (s.pc + 2) (s.reg rs1 &&& ~~~1#64))

/-- O58. Where the environment does not trap the access, C.LW and C.LD on both paths, and C.LWSP and C.LDSP on the expand
path, write their register with the sign-extended word or the doubleword at the base plus the zero-extended offset;
C.SW, C.SD, C.SWSP and C.SDSP store the low bytes of their register there and leave every other byte; the pc goes two
bytes on, and nothing else changes but the older memories a fetch may see, which a store adds to (log entry 2;
misaligned policy: log entry 8; bytes past the top of the address space wrap: log entry 5; so does pc + 2: log entry
20). [R49, R181, R308] -/
def Obligations.CompressedMemory : Prop :=
  (∀ (s : State) (rdp rs1p : PopIdx) (off : BitVec 7),
    AccessAllowed s (s.reg (popular rs1p) + off.zeroExtend 64) 4 →
      ExecSets (.cLw rdp rs1p off) s (popular rdp) ((s.mem.bytes4 (s.reg (popular rs1p) + off.zeroExtend 64)).signExtend 64) (s.pc + 2)) ∧
  (∀ (s : State) (rdp rs1p : PopIdx) (off : BitVec 8),
    AccessAllowed s (s.reg (popular rs1p) + off.zeroExtend 64) 8 →
      ExecSets (.cLd rdp rs1p off) s (popular rdp) (s.mem.bytes8 (s.reg (popular rs1p) + off.zeroExtend 64)) (s.pc + 2)) ∧
  (∀ (s : State) (rs1p rs2p : PopIdx) (off : BitVec 7), s.mem.wf = true →
    AccessAllowed s (s.effAddr (popular rs1p) (uimm off)) 4 →
      ExecStores (.cSw rs1p rs2p off) s (s.effAddr (popular rs1p) (uimm off)) 4
        ((s.reg (popular rs2p)).extractLsb' 0 32) (s.pc + 2)) ∧
  (∀ (s : State) (rs1p rs2p : PopIdx) (off : BitVec 8), s.mem.wf = true →
    AccessAllowed s (s.effAddr (popular rs1p) (uimm off)) 8 →
      ExecStores (.cSd rs1p rs2p off) s (s.effAddr (popular rs1p) (uimm off)) 8
        ((s.reg (popular rs2p)).extractLsb' 0 64) (s.pc + 2)) ∧
  (∀ (s : State) (rd : RegIdx) (off : BitVec 8), s.params.compressedPath = .expand →
    AccessAllowed s (s.reg 2 + off.zeroExtend 64) 4 →
      ExecSets (.cLwsp rd off) s rd ((s.mem.bytes4 (s.reg 2 + off.zeroExtend 64)).signExtend 64) (s.pc + 2)) ∧
  (∀ (s : State) (rd : RegIdx) (off : BitVec 9), s.params.compressedPath = .expand →
    AccessAllowed s (s.reg 2 + off.zeroExtend 64) 8 →
      ExecSets (.cLdsp rd off) s rd (s.mem.bytes8 (s.reg 2 + off.zeroExtend 64)) (s.pc + 2)) ∧
  (∀ (s : State) (rs2 : RegIdx) (off : BitVec 8), s.params.compressedPath = .expand → s.mem.wf = true →
    AccessAllowed s (s.effAddr 2 (uimm off)) 4 →
      ExecStores (.cSwsp rs2 off) s (s.effAddr 2 (uimm off)) 4 ((s.reg rs2).extractLsb' 0 32) (s.pc + 2)) ∧
  (∀ (s : State) (rs2 : RegIdx) (off : BitVec 9), s.params.compressedPath = .expand → s.mem.wf = true →
    AccessAllowed s (s.effAddr 2 (uimm off)) 8 →
      ExecStores (.cSdsp rs2 off) s (s.effAddr 2 (uimm off)) 8 ((s.reg rs2).extractLsb' 0 64) (s.pc + 2))

/-- O59. With COMPRESSED_PATH = QUADRANT every compressed form but C.LW, C.LD, C.SW and C.SD takes the illegal-
instruction exception, code 2, recording its zero-extended parcel or 0 (trap layout: log entry 11; machine mode from
any mode: log entry 16). [R286, R381] -/
def Obligations.QuadrantPathTraps : Prop :=
  ∀ s : State, s.params.compressedPath = .quadrant →
    (∀ (rdp : PopIdx) (n : BitVec 10), ExecTraps (.cAddi4spn rdp n) s 2 (tvalOf s (encode (.cAddi4spn rdp n)))) ∧
    (ExecTraps .cNop s 2 (tvalOf s (encode .cNop))) ∧
    (∀ (rd : RegIdx) (n : BitVec 6), ExecTraps (.cAddi rd n) s 2 (tvalOf s (encode (.cAddi rd n)))) ∧
    (∀ (rd : RegIdx) (n : BitVec 6), ExecTraps (.cAddiw rd n) s 2 (tvalOf s (encode (.cAddiw rd n)))) ∧
    (∀ (rd : RegIdx) (n : BitVec 6), ExecTraps (.cLi rd n) s 2 (tvalOf s (encode (.cLi rd n)))) ∧
    (∀ (n : BitVec 10), ExecTraps (.cAddi16sp n) s 2 (tvalOf s (encode (.cAddi16sp n)))) ∧
    (∀ (rd : RegIdx) (n : BitVec 6), ExecTraps (.cLui rd n) s 2 (tvalOf s (encode (.cLui rd n)))) ∧
    (∀ (p : PopIdx) (n : BitVec 6), ExecTraps (.cSrli p n) s 2 (tvalOf s (encode (.cSrli p n)))) ∧
    (∀ (p : PopIdx) (n : BitVec 6), ExecTraps (.cSrai p n) s 2 (tvalOf s (encode (.cSrai p n)))) ∧
    (∀ (p : PopIdx) (n : BitVec 6), ExecTraps (.cAndi p n) s 2 (tvalOf s (encode (.cAndi p n)))) ∧
    (∀ (p q : PopIdx), ExecTraps (.cSub p q) s 2 (tvalOf s (encode (.cSub p q)))) ∧
    (∀ (p q : PopIdx), ExecTraps (.cXor p q) s 2 (tvalOf s (encode (.cXor p q)))) ∧
    (∀ (p q : PopIdx), ExecTraps (.cOr p q) s 2 (tvalOf s (encode (.cOr p q)))) ∧
    (∀ (p q : PopIdx), ExecTraps (.cAnd p q) s 2 (tvalOf s (encode (.cAnd p q)))) ∧
    (∀ (p q : PopIdx), ExecTraps (.cSubw p q) s 2 (tvalOf s (encode (.cSubw p q)))) ∧
    (∀ (p q : PopIdx), ExecTraps (.cAddw p q) s 2 (tvalOf s (encode (.cAddw p q)))) ∧
    (∀ (n : BitVec 12), ExecTraps (.cJ n) s 2 (tvalOf s (encode (.cJ n)))) ∧
    (∀ (p : PopIdx) (n : BitVec 9), ExecTraps (.cBeqz p n) s 2 (tvalOf s (encode (.cBeqz p n)))) ∧
    (∀ (p : PopIdx) (n : BitVec 9), ExecTraps (.cBnez p n) s 2 (tvalOf s (encode (.cBnez p n)))) ∧
    (∀ (rd : RegIdx) (n : BitVec 6), ExecTraps (.cSlli rd n) s 2 (tvalOf s (encode (.cSlli rd n)))) ∧
    (∀ (rd : RegIdx) (n : BitVec 8), ExecTraps (.cLwsp rd n) s 2 (tvalOf s (encode (.cLwsp rd n)))) ∧
    (∀ (rd : RegIdx) (n : BitVec 9), ExecTraps (.cLdsp rd n) s 2 (tvalOf s (encode (.cLdsp rd n)))) ∧
    (∀ (rs1 : RegIdx), ExecTraps (.cJr rs1) s 2 (tvalOf s (encode (.cJr rs1)))) ∧
    (∀ (rd rs2 : RegIdx), ExecTraps (.cMv rd rs2) s 2 (tvalOf s (encode (.cMv rd rs2)))) ∧
    (ExecTraps .cEbreak s 2 (tvalOf s (encode .cEbreak))) ∧
    (∀ (rs1 : RegIdx), ExecTraps (.cJalr rs1) s 2 (tvalOf s (encode (.cJalr rs1)))) ∧
    (∀ (rd rs2 : RegIdx), ExecTraps (.cAdd rd rs2) s 2 (tvalOf s (encode (.cAdd rd rs2)))) ∧
    (∀ (rs2 : RegIdx) (n : BitVec 8), ExecTraps (.cSwsp rs2 n) s 2 (tvalOf s (encode (.cSwsp rs2 n)))) ∧
    (∀ (rs2 : RegIdx) (n : BitVec 9), ExecTraps (.cSdsp rs2 n) s 2 (tvalOf s (encode (.cSdsp rs2 n))))

/-- O60. With a mode's code in mstatus.MPP, trap return puts the pc at mepc, the mode at MPP and MIE at MPIE, keeps every
other bit of mstatus, every register, CSR and byte of memory; with the reserved code 2 it stops with the fault that
names it (log entry 14); returning right after an exception gives the mode, MIE and the pc at the exception; entry
for an interrupt goes to mtvec.BASE, or in vectored mode to BASE plus four times the code (no decoded instruction
returns from a trap, log entry 14, and no step delivers an interrupt, log entry 13; layout: log entry 11; machine
mode at entry: log entry 16). [R387, R386] -/
def Obligations.TrapReturnRestores : Prop :=
  (∀ (s : State) (m : Mode), statusMPP s.mstatus = m.bits →
    Completes s.trapReturn (fun t => t.pc = s.mepc ∧ t.mode = m ∧ statusMIE t.mstatus = statusMPIE s.mstatus ∧
      (∀ k, k ≠ 3 → t.mstatus.getLsbD k = s.mstatus.getLsbD k) ∧ t.mtvec = s.mtvec ∧ t.mepc = s.mepc ∧
      t.mcause = s.mcause ∧ t.mtval = s.mtval ∧ t.csrs = s.csrs ∧ SameRegs s t ∧ SameMemory s t ∧ SameModel s t)) ∧
  (∀ s : State, statusMPP s.mstatus = 0b10#2 → s.trapReturn = .fault .reservedPrivilege) ∧
  (∀ (s : State) (code : Nat) (tval : Word), Completes (s.takeTrap false code tval).trapReturn (fun t =>
    t.pc = s.pc ∧ t.mode = s.mode ∧ statusMIE t.mstatus = statusMIE s.mstatus ∧ SameRegs s t ∧ SameMemory s t)) ∧
  (∀ (s : State) (code : Nat) (tval : Word), code < 2 ^ 60 →
    (s.takeTrap true code tval).pc =
      (if s.mtvec.extractLsb' 0 2 = 1#2 then (s.mtvec &&& ~~~3#64) + BitVec.ofNat 64 (4 * code)
        else s.mtvec &&& ~~~3#64) ∧
    (s.takeTrap true code tval).mcause = BitVec.ofNat 64 (2 ^ 63 + code) ∧ (s.takeTrap true code tval).mepc = s.pc)
end

