-- ==== Sys2Proof/Laws/Cells.lean ====
section
/-! SUPPORT. Sparse cells: a read after a write, and that a write keeps the canonical form. -/

namespace Sys2Proof.Machine

variable {α : Type} [DecidableEq α] (d : α)

/-- Below the first key of a canonical list everything reads as the default. -/
theorem Cells.read_below {bound lo : Nat} {l : List (Nat × α)} (h : Cells.wfFrom d bound lo l = true) {a : Nat}
    (ha : a < lo) : Cells.read d l a = d := by
  induction l generalizing lo with
  | nil => rfl
  | cons c rest ih =>
    obtain ⟨b, u⟩ := c
    simp only [Cells.wfFrom, Bool.and_eq_true, decide_eq_true_eq] at h
    rw [Cells.read, if_neg (by omega)]
    exact ih h.2 (by omega)

/-- Reading a key after writing one: the value written at that key, what was there before at any other. -/
theorem Cells.read_write {bound lo : Nat} {l : List (Nat × α)} (h : Cells.wfFrom d bound lo l = true) (a : Nat) (v : α)
    (k : Nat) : Cells.read d (Cells.write d l a v) k = if k = a then v else Cells.read d l k := by
  induction l generalizing lo with
  | nil => by_cases hv : v = d <;> by_cases hk : k = a <;> simp [Cells.write, Cells.read, hv, hk]
  | cons c rest ih =>
    obtain ⟨b, u⟩ := c
    simp only [Cells.wfFrom, Bool.and_eq_true, decide_eq_true_eq] at h
    have hrest : ∀ j, j ≤ b → Cells.read d rest j = d := fun j hj => Cells.read_below d h.2 (by omega)
    rw [Cells.write]
    split
    · rename_i hab
      have hr : Cells.read d ((b, u) :: rest) a = d := by
        rw [Cells.read, if_neg (by omega), hrest a (by omega)]
      split <;> rename_i hv
      · by_cases hk : k = a
        · rw [if_pos hk, hk, hr, hv]
        · rw [if_neg hk]
      · by_cases hk : k = a <;> simp [Cells.read, hk]
    · split
      · rename_i hab
        subst hab
        split <;> rename_i hv
        · by_cases hk : k = a
          · rw [if_pos hk, hk, hrest a (Nat.le_refl a), hv]
          · simp [Cells.read, hk]
        · by_cases hk : k = a <;> simp [Cells.read, hk]
      · rename_i h1 h2
        by_cases hk : k = b
        · subst hk
          have hka : ¬ k = a := fun h' => h2 h'.symm
          simp [Cells.read, hka]
        · simp only [Cells.read, if_neg hk]
          exact ih h.2

/-- A write keeps the canonical form. -/
theorem Cells.wfFrom_write {bound lo : Nat} {l : List (Nat × α)} (h : Cells.wfFrom d bound lo l = true) {a : Nat}
    (hlo : lo ≤ a) (ha : a < bound) (v : α) : Cells.wfFrom d bound lo (Cells.write d l a v) = true := by
  induction l generalizing lo with
  | nil => by_cases hv : v = d <;> simp [Cells.write, Cells.wfFrom, hv, hlo, ha]
  | cons c rest ih =>
    obtain ⟨b, u⟩ := c
    have h' := h
    simp only [Cells.wfFrom, Bool.and_eq_true, decide_eq_true_eq] at h
    obtain ⟨⟨⟨hb, hbb⟩, hu⟩, hr⟩ := h
    rw [Cells.write]
    split
    · split <;> rename_i hab hv
      · exact h'
      · simp only [Cells.wfFrom, Bool.and_eq_true, decide_eq_true_eq]
        exact ⟨⟨⟨hlo, ha⟩, hv⟩, ⟨⟨by omega, hbb⟩, hu⟩, hr⟩
    · split
      · rename_i hab
        subst hab
        split <;> rename_i hv
        · cases rest with
          | nil => rfl
          | cons e rest' =>
            obtain ⟨e, w⟩ := e
            simp only [Cells.wfFrom, Bool.and_eq_true, decide_eq_true_eq] at hr ⊢
            exact ⟨⟨⟨by omega, hr.1.1.2⟩, hr.1.2⟩, hr.2⟩
        · simp only [Cells.wfFrom, Bool.and_eq_true, decide_eq_true_eq]
          exact ⟨⟨⟨hb, hbb⟩, hv⟩, hr⟩
      · simp only [Cells.wfFrom, Bool.and_eq_true, decide_eq_true_eq]
        exact ⟨⟨⟨hb, hbb⟩, hu⟩, ih hr (by omega)⟩

theorem Cells.wf_write {bound : Nat} {l : List (Nat × α)} (h : Cells.wf d bound l = true) {a : Nat} (ha : a < bound)
    (v : α) : Cells.wf d bound (Cells.write d l a v) = true :=
  Cells.wfFrom_write d h (Nat.zero_le a) ha v

/-- A write lists no key but its own and those listed before. -/
theorem Cells.mem_write {l : List (Nat × α)} {a : Nat} {v : α} {c : Nat × α} (h : c ∈ Cells.write d l a v) :
    c = (a, v) ∨ c ∈ l := by
  induction l with
  | nil => by_cases hv : v = d <;> simp_all [Cells.write]
  | cons e rest ih =>
    obtain ⟨b, u⟩ := e
    rw [Cells.write] at h
    split at h
    · split at h
      · exact Or.inr h
      · exact List.mem_cons.mp h
    · split at h
      · split at h
        · exact Or.inr (List.mem_cons_of_mem _ h)
        · rcases List.mem_cons.mp h with h | h
          · exact Or.inl h
          · exact Or.inr (List.mem_cons_of_mem _ h)
      · rcases List.mem_cons.mp h with h | h
        · exact Or.inr (h ▸ List.mem_cons_self)
        · rcases ih h with h | h
          · exact Or.inl h
          · exact Or.inr (List.mem_cons_of_mem _ h)

end Sys2Proof.Machine
end

