-- ==== Sys2Proof/Laws/Exec.lean ====
section
/-! SUPPORT. What `exec` runs for each form, so that no proof unfolds its match. -/

namespace Sys2Proof.Machine

variable (s : State)

theorem exec_illegal : exec .illegal s =
    runIllegal (encode .illegal) s := rfl

theorem exec_lui (rd : RegIdx) (imm : BitVec 20) : exec (.lui rd imm) s =
    runLui 4 rd (immUOf imm) s := rfl

theorem exec_auipc (rd : RegIdx) (imm : BitVec 20) : exec (.auipc rd imm) s =
    runAuipc 4 rd (immUOf imm) s := rfl

theorem exec_jal (rd : RegIdx) (imm : BitVec 21) : exec (.jal rd imm) s =
    runJal 4 rd (simm imm) s := rfl

theorem exec_jalr (rd rs1 : RegIdx) (imm : BitVec 12) : exec (.jalr rd rs1 imm) s =
    runJalr 4 rd rs1 (simm imm) s := rfl

theorem exec_beq (rs1 rs2 : RegIdx) (imm : BitVec 13) : exec (.beq rs1 rs2 imm) s =
    runBeq 4 rs1 rs2 (simm imm) s := rfl

theorem exec_bne (rs1 rs2 : RegIdx) (imm : BitVec 13) : exec (.bne rs1 rs2 imm) s =
    runBne 4 rs1 rs2 (simm imm) s := rfl

theorem exec_blt (rs1 rs2 : RegIdx) (imm : BitVec 13) : exec (.blt rs1 rs2 imm) s =
    runBlt 4 rs1 rs2 (simm imm) s := rfl

theorem exec_bge (rs1 rs2 : RegIdx) (imm : BitVec 13) : exec (.bge rs1 rs2 imm) s =
    runBge 4 rs1 rs2 (simm imm) s := rfl

theorem exec_bltu (rs1 rs2 : RegIdx) (imm : BitVec 13) : exec (.bltu rs1 rs2 imm) s =
    runBltu 4 rs1 rs2 (simm imm) s := rfl

theorem exec_bgeu (rs1 rs2 : RegIdx) (imm : BitVec 13) : exec (.bgeu rs1 rs2 imm) s =
    runBgeu 4 rs1 rs2 (simm imm) s := rfl

theorem exec_lb (rd rs1 : RegIdx) (imm : BitVec 12) : exec (.lb rd rs1 imm) s =
    runLb 4 rd rs1 (simm imm) s := rfl

theorem exec_lh (rd rs1 : RegIdx) (imm : BitVec 12) : exec (.lh rd rs1 imm) s =
    runLh 4 rd rs1 (simm imm) s := rfl

theorem exec_lw (rd rs1 : RegIdx) (imm : BitVec 12) : exec (.lw rd rs1 imm) s =
    runLw 4 rd rs1 (simm imm) s := rfl

theorem exec_ld (rd rs1 : RegIdx) (imm : BitVec 12) : exec (.ld rd rs1 imm) s =
    runLd 4 rd rs1 (simm imm) s := rfl

theorem exec_lbu (rd rs1 : RegIdx) (imm : BitVec 12) : exec (.lbu rd rs1 imm) s =
    runLbu 4 rd rs1 (simm imm) s := rfl

theorem exec_lhu (rd rs1 : RegIdx) (imm : BitVec 12) : exec (.lhu rd rs1 imm) s =
    runLhu 4 rd rs1 (simm imm) s := rfl

theorem exec_lwu (rd rs1 : RegIdx) (imm : BitVec 12) : exec (.lwu rd rs1 imm) s =
    runLwu 4 rd rs1 (simm imm) s := rfl

theorem exec_sb (rs1 rs2 : RegIdx) (imm : BitVec 12) : exec (.sb rs1 rs2 imm) s =
    runSb 4 rs1 rs2 (simm imm) s := rfl

theorem exec_sh (rs1 rs2 : RegIdx) (imm : BitVec 12) : exec (.sh rs1 rs2 imm) s =
    runSh 4 rs1 rs2 (simm imm) s := rfl

theorem exec_sw (rs1 rs2 : RegIdx) (imm : BitVec 12) : exec (.sw rs1 rs2 imm) s =
    runSw 4 rs1 rs2 (simm imm) s := rfl

theorem exec_sd (rs1 rs2 : RegIdx) (imm : BitVec 12) : exec (.sd rs1 rs2 imm) s =
    runSd 4 rs1 rs2 (simm imm) s := rfl

theorem exec_addi (rd rs1 : RegIdx) (imm : BitVec 12) : exec (.addi rd rs1 imm) s =
    runAddi 4 rd rs1 (simm imm) s := rfl

theorem exec_slti (rd rs1 : RegIdx) (imm : BitVec 12) : exec (.slti rd rs1 imm) s =
    runSlti 4 rd rs1 (simm imm) s := rfl

theorem exec_sltiu (rd rs1 : RegIdx) (imm : BitVec 12) : exec (.sltiu rd rs1 imm) s =
    runSltiu 4 rd rs1 (simm imm) s := rfl

theorem exec_xori (rd rs1 : RegIdx) (imm : BitVec 12) : exec (.xori rd rs1 imm) s =
    runXori 4 rd rs1 (simm imm) s := rfl

theorem exec_ori (rd rs1 : RegIdx) (imm : BitVec 12) : exec (.ori rd rs1 imm) s =
    runOri 4 rd rs1 (simm imm) s := rfl

theorem exec_andi (rd rs1 : RegIdx) (imm : BitVec 12) : exec (.andi rd rs1 imm) s =
    runAndi 4 rd rs1 (simm imm) s := rfl

theorem exec_slli (rd rs1 : RegIdx) (shamt : BitVec 6) : exec (.slli rd rs1 shamt) s =
    runSlli 4 rd rs1 shamt s := rfl

theorem exec_srli (rd rs1 : RegIdx) (shamt : BitVec 6) : exec (.srli rd rs1 shamt) s =
    runSrli 4 rd rs1 shamt s := rfl

theorem exec_srai (rd rs1 : RegIdx) (shamt : BitVec 6) : exec (.srai rd rs1 shamt) s =
    runSrai 4 rd rs1 shamt s := rfl

theorem exec_add (rd rs1 rs2 : RegIdx) : exec (.add rd rs1 rs2) s =
    runAdd 4 rd rs1 rs2 s := rfl

theorem exec_sub (rd rs1 rs2 : RegIdx) : exec (.sub rd rs1 rs2) s =
    runSub 4 rd rs1 rs2 s := rfl

theorem exec_sll (rd rs1 rs2 : RegIdx) : exec (.sll rd rs1 rs2) s =
    runSll 4 rd rs1 rs2 s := rfl

theorem exec_slt (rd rs1 rs2 : RegIdx) : exec (.slt rd rs1 rs2) s =
    runSlt 4 rd rs1 rs2 s := rfl

theorem exec_sltu (rd rs1 rs2 : RegIdx) : exec (.sltu rd rs1 rs2) s =
    runSltu 4 rd rs1 rs2 s := rfl

theorem exec_xor (rd rs1 rs2 : RegIdx) : exec (.xor rd rs1 rs2) s =
    runXor 4 rd rs1 rs2 s := rfl

theorem exec_srl (rd rs1 rs2 : RegIdx) : exec (.srl rd rs1 rs2) s =
    runSrl 4 rd rs1 rs2 s := rfl

theorem exec_sra (rd rs1 rs2 : RegIdx) : exec (.sra rd rs1 rs2) s =
    runSra 4 rd rs1 rs2 s := rfl

theorem exec_or (rd rs1 rs2 : RegIdx) : exec (.or rd rs1 rs2) s =
    runOr 4 rd rs1 rs2 s := rfl

theorem exec_and (rd rs1 rs2 : RegIdx) : exec (.and rd rs1 rs2) s =
    runAnd 4 rd rs1 rs2 s := rfl

theorem exec_mul (rd rs1 rs2 : RegIdx) : exec (.mul rd rs1 rs2) s =
    runMul 4 rd rs1 rs2 s := rfl

theorem exec_mulh (rd rs1 rs2 : RegIdx) : exec (.mulh rd rs1 rs2) s =
    runMulh 4 rd rs1 rs2 s := rfl

theorem exec_mulhsu (rd rs1 rs2 : RegIdx) : exec (.mulhsu rd rs1 rs2) s =
    runMulhsu 4 rd rs1 rs2 s := rfl

theorem exec_mulhu (rd rs1 rs2 : RegIdx) : exec (.mulhu rd rs1 rs2) s =
    runMulhu 4 rd rs1 rs2 s := rfl

theorem exec_div (rd rs1 rs2 : RegIdx) : exec (.div rd rs1 rs2) s =
    runDiv 4 rd rs1 rs2 s := rfl

theorem exec_divu (rd rs1 rs2 : RegIdx) : exec (.divu rd rs1 rs2) s =
    runDivu 4 rd rs1 rs2 s := rfl

theorem exec_rem (rd rs1 rs2 : RegIdx) : exec (.rem rd rs1 rs2) s =
    runRem 4 rd rs1 rs2 s := rfl

theorem exec_remu (rd rs1 rs2 : RegIdx) : exec (.remu rd rs1 rs2) s =
    runRemu 4 rd rs1 rs2 s := rfl

theorem exec_addiw (rd rs1 : RegIdx) (imm : BitVec 12) : exec (.addiw rd rs1 imm) s =
    runAddiw 4 rd rs1 (simm imm) s := rfl

theorem exec_slliw (rd rs1 : RegIdx) (shamt : BitVec 5) : exec (.slliw rd rs1 shamt) s =
    runSlliw 4 rd rs1 shamt s := rfl

theorem exec_srliw (rd rs1 : RegIdx) (shamt : BitVec 5) : exec (.srliw rd rs1 shamt) s =
    runSrliw 4 rd rs1 shamt s := rfl

theorem exec_sraiw (rd rs1 : RegIdx) (shamt : BitVec 5) : exec (.sraiw rd rs1 shamt) s =
    runSraiw 4 rd rs1 shamt s := rfl

theorem exec_addw (rd rs1 rs2 : RegIdx) : exec (.addw rd rs1 rs2) s =
    runAddw 4 rd rs1 rs2 s := rfl

theorem exec_subw (rd rs1 rs2 : RegIdx) : exec (.subw rd rs1 rs2) s =
    runSubw 4 rd rs1 rs2 s := rfl

theorem exec_sllw (rd rs1 rs2 : RegIdx) : exec (.sllw rd rs1 rs2) s =
    runSllw 4 rd rs1 rs2 s := rfl

theorem exec_srlw (rd rs1 rs2 : RegIdx) : exec (.srlw rd rs1 rs2) s =
    runSrlw 4 rd rs1 rs2 s := rfl

theorem exec_sraw (rd rs1 rs2 : RegIdx) : exec (.sraw rd rs1 rs2) s =
    runSraw 4 rd rs1 rs2 s := rfl

theorem exec_mulw (rd rs1 rs2 : RegIdx) : exec (.mulw rd rs1 rs2) s =
    runMulw 4 rd rs1 rs2 s := rfl

theorem exec_divw (rd rs1 rs2 : RegIdx) : exec (.divw rd rs1 rs2) s =
    runDivw 4 rd rs1 rs2 s := rfl

theorem exec_divuw (rd rs1 rs2 : RegIdx) : exec (.divuw rd rs1 rs2) s =
    runDivuw 4 rd rs1 rs2 s := rfl

theorem exec_remw (rd rs1 rs2 : RegIdx) : exec (.remw rd rs1 rs2) s =
    runRemw 4 rd rs1 rs2 s := rfl

theorem exec_remuw (rd rs1 rs2 : RegIdx) : exec (.remuw rd rs1 rs2) s =
    runRemuw 4 rd rs1 rs2 s := rfl

theorem exec_fence (rd rs1 : RegIdx) (fm pred succ : BitVec 4) : exec (.fence rd rs1 fm pred succ) s =
    runFence 4 s := rfl

theorem exec_fenceI (rd rs1 : RegIdx) (imm : BitVec 12) : exec (.fenceI rd rs1 imm) s =
    runFenceI 4 s := rfl

theorem exec_ecall : exec .ecall s =
    runEcall s := rfl

theorem exec_ebreak : exec .ebreak s =
    runEbreak s := rfl

theorem exec_csrrw (rd rs1 : RegIdx) (csr : CsrIdx) : exec (.csrrw rd rs1 csr) s =
    runCsrrw 4 (encode (.csrrw rd rs1 csr)) rd rs1 csr s := rfl

theorem exec_csrrs (rd rs1 : RegIdx) (csr : CsrIdx) : exec (.csrrs rd rs1 csr) s =
    runCsrrs 4 (encode (.csrrs rd rs1 csr)) rd rs1 csr s := rfl

theorem exec_csrrc (rd rs1 : RegIdx) (csr : CsrIdx) : exec (.csrrc rd rs1 csr) s =
    runCsrrc 4 (encode (.csrrc rd rs1 csr)) rd rs1 csr s := rfl

theorem exec_csrrwi (rd : RegIdx) (zimm : BitVec 5) (csr : CsrIdx) : exec (.csrrwi rd zimm csr) s =
    runCsrrwi 4 (encode (.csrrwi rd zimm csr)) rd zimm csr s := rfl

theorem exec_csrrsi (rd : RegIdx) (zimm : BitVec 5) (csr : CsrIdx) : exec (.csrrsi rd zimm csr) s =
    runCsrrsi 4 (encode (.csrrsi rd zimm csr)) rd zimm csr s := rfl

theorem exec_csrrci (rd : RegIdx) (zimm : BitVec 5) (csr : CsrIdx) : exec (.csrrci rd zimm csr) s =
    runCsrrci 4 (encode (.csrrci rd zimm csr)) rd zimm csr s := rfl

theorem exec_cAddi4spn (rdp : PopIdx) (nzuimm : BitVec 10) : exec (.cAddi4spn rdp nzuimm) s =
    s.onExpandPath (encode (.cAddi4spn rdp nzuimm)) (runAddi 2 (popular rdp) sp (uimm nzuimm) s) := rfl

theorem exec_cLw (rdp rs1p : PopIdx) (off : BitVec 7) : exec (.cLw rdp rs1p off) s =
    runLw 2 (popular rdp) (popular rs1p) (uimm off) s := rfl

theorem exec_cLd (rdp rs1p : PopIdx) (off : BitVec 8) : exec (.cLd rdp rs1p off) s =
    runLd 2 (popular rdp) (popular rs1p) (uimm off) s := rfl

theorem exec_cSw (rs1p rs2p : PopIdx) (off : BitVec 7) : exec (.cSw rs1p rs2p off) s =
    runSw 2 (popular rs1p) (popular rs2p) (uimm off) s := rfl

theorem exec_cSd (rs1p rs2p : PopIdx) (off : BitVec 8) : exec (.cSd rs1p rs2p off) s =
    runSd 2 (popular rs1p) (popular rs2p) (uimm off) s := rfl

theorem exec_cNop : exec .cNop s =
    s.onExpandPath (encode .cNop) (runAddi 2 0 0 0 s) := rfl

theorem exec_cAddi (rd : RegIdx) (imm : BitVec 6) : exec (.cAddi rd imm) s =
    s.onExpandPath (encode (.cAddi rd imm)) (runAddi 2 rd rd (simm imm) s) := rfl

theorem exec_cAddiw (rd : RegIdx) (imm : BitVec 6) : exec (.cAddiw rd imm) s =
    s.onExpandPath (encode (.cAddiw rd imm)) (runAddiw 2 rd rd (simm imm) s) := rfl

theorem exec_cLi (rd : RegIdx) (imm : BitVec 6) : exec (.cLi rd imm) s =
    s.onExpandPath (encode (.cLi rd imm)) (runAddi 2 rd 0 (simm imm) s) := rfl

theorem exec_cAddi16sp (nzimm : BitVec 10) : exec (.cAddi16sp nzimm) s =
    s.onExpandPath (encode (.cAddi16sp nzimm)) (runAddi 2 sp sp (simm nzimm) s) := rfl

theorem exec_cLui (rd : RegIdx) (imm : BitVec 6) : exec (.cLui rd imm) s =
    s.onExpandPath (encode (.cLui rd imm)) (runLui 2 rd (immUOf (imm.signExtend 20)) s) := rfl

theorem exec_cSrli (rdp : PopIdx) (shamt : BitVec 6) : exec (.cSrli rdp shamt) s =
    s.onExpandPath (encode (.cSrli rdp shamt)) (runSrli 2 (popular rdp) (popular rdp) shamt s) := rfl

theorem exec_cSrai (rdp : PopIdx) (shamt : BitVec 6) : exec (.cSrai rdp shamt) s =
    s.onExpandPath (encode (.cSrai rdp shamt)) (runSrai 2 (popular rdp) (popular rdp) shamt s) := rfl

theorem exec_cAndi (rdp : PopIdx) (imm : BitVec 6) : exec (.cAndi rdp imm) s =
    s.onExpandPath (encode (.cAndi rdp imm)) (runAndi 2 (popular rdp) (popular rdp) (simm imm) s) := rfl

theorem exec_cSub (rdp rs2p : PopIdx) : exec (.cSub rdp rs2p) s =
    s.onExpandPath (encode (.cSub rdp rs2p)) (runSub 2 (popular rdp) (popular rdp) (popular rs2p) s) := rfl

theorem exec_cXor (rdp rs2p : PopIdx) : exec (.cXor rdp rs2p) s =
    s.onExpandPath (encode (.cXor rdp rs2p)) (runXor 2 (popular rdp) (popular rdp) (popular rs2p) s) := rfl

theorem exec_cOr (rdp rs2p : PopIdx) : exec (.cOr rdp rs2p) s =
    s.onExpandPath (encode (.cOr rdp rs2p)) (runOr 2 (popular rdp) (popular rdp) (popular rs2p) s) := rfl

theorem exec_cAnd (rdp rs2p : PopIdx) : exec (.cAnd rdp rs2p) s =
    s.onExpandPath (encode (.cAnd rdp rs2p)) (runAnd 2 (popular rdp) (popular rdp) (popular rs2p) s) := rfl

theorem exec_cSubw (rdp rs2p : PopIdx) : exec (.cSubw rdp rs2p) s =
    s.onExpandPath (encode (.cSubw rdp rs2p)) (runSubw 2 (popular rdp) (popular rdp) (popular rs2p) s) := rfl

theorem exec_cAddw (rdp rs2p : PopIdx) : exec (.cAddw rdp rs2p) s =
    s.onExpandPath (encode (.cAddw rdp rs2p)) (runAddw 2 (popular rdp) (popular rdp) (popular rs2p) s) := rfl

theorem exec_cJ (off : BitVec 12) : exec (.cJ off) s =
    s.onExpandPath (encode (.cJ off)) (runJal 2 0 (simm off) s) := rfl

theorem exec_cBeqz (rs1p : PopIdx) (off : BitVec 9) : exec (.cBeqz rs1p off) s =
    s.onExpandPath (encode (.cBeqz rs1p off)) (runBeq 2 (popular rs1p) 0 (simm off) s) := rfl

theorem exec_cBnez (rs1p : PopIdx) (off : BitVec 9) : exec (.cBnez rs1p off) s =
    s.onExpandPath (encode (.cBnez rs1p off)) (runBne 2 (popular rs1p) 0 (simm off) s) := rfl

theorem exec_cSlli (rd : RegIdx) (shamt : BitVec 6) : exec (.cSlli rd shamt) s =
    s.onExpandPath (encode (.cSlli rd shamt)) (runSlli 2 rd rd shamt s) := rfl

theorem exec_cLwsp (rd : RegIdx) (off : BitVec 8) : exec (.cLwsp rd off) s =
    s.onExpandPath (encode (.cLwsp rd off)) (runLw 2 rd sp (uimm off) s) := rfl

theorem exec_cLdsp (rd : RegIdx) (off : BitVec 9) : exec (.cLdsp rd off) s =
    s.onExpandPath (encode (.cLdsp rd off)) (runLd 2 rd sp (uimm off) s) := rfl

theorem exec_cJr (rs1 : RegIdx) : exec (.cJr rs1) s =
    s.onExpandPath (encode (.cJr rs1)) (runJalr 2 0 rs1 0 s) := rfl

theorem exec_cMv (rd rs2 : RegIdx) : exec (.cMv rd rs2) s =
    s.onExpandPath (encode (.cMv rd rs2)) (runAdd 2 rd 0 rs2 s) := rfl

theorem exec_cEbreak : exec .cEbreak s =
    s.onExpandPath (encode .cEbreak) (runEbreak s) := rfl

theorem exec_cJalr (rs1 : RegIdx) : exec (.cJalr rs1) s =
    s.onExpandPath (encode (.cJalr rs1)) (runJalr 2 ra rs1 0 s) := rfl

theorem exec_cAdd (rd rs2 : RegIdx) : exec (.cAdd rd rs2) s =
    s.onExpandPath (encode (.cAdd rd rs2)) (runAdd 2 rd rd rs2 s) := rfl

theorem exec_cSwsp (rs2 : RegIdx) (off : BitVec 8) : exec (.cSwsp rs2 off) s =
    s.onExpandPath (encode (.cSwsp rs2 off)) (runSw 2 sp rs2 (uimm off) s) := rfl

theorem exec_cSdsp (rs2 : RegIdx) (off : BitVec 9) : exec (.cSdsp rs2 off) s =
    s.onExpandPath (encode (.cSdsp rs2 off)) (runSd 2 sp rs2 (uimm off) s) := rfl

theorem exec_cFld (rdp rs1p : PopIdx) (hi : BitVec 3) (lo : BitVec 2) : exec (.cFld rdp rs1p hi lo) s =
    s.illegalInstruction (encode (.cFld rdp rs1p hi lo)) := rfl

theorem exec_cFsd (rs1p rs2p : PopIdx) (hi : BitVec 3) (lo : BitVec 2) : exec (.cFsd rs1p rs2p hi lo) s =
    s.illegalInstruction (encode (.cFsd rs1p rs2p hi lo)) := rfl

theorem exec_cFldsp (rd : RegIdx) (hi : BitVec 1) (lo : BitVec 5) : exec (.cFldsp rd hi lo) s =
    s.illegalInstruction (encode (.cFldsp rd hi lo)) := rfl

theorem exec_cFsdsp (rs2 : RegIdx) (hi : BitVec 6) : exec (.cFsdsp rs2 hi) s =
    s.illegalInstruction (encode (.cFsdsp rs2 hi)) := rfl

end Sys2Proof.Machine
end

