-- ==== Sys2Proof/Laws/Memory.lean ====
section
/-! SUPPORT. Memory: a byte read after a write, and that every memory operation keeps the canonical form. -/

namespace Sys2Proof.Machine

theorem Memory.readByte_writeByte {m : Memory} (h : m.wf = true) (a b : Word) (v : Byte) :
    (m.writeByte a v).readByte b = if b = a then v else m.readByte b := by
  unfold Memory.readByte Memory.writeByte
  rw [Cells.read_write Memory.unlisted h]
  by_cases hba : b = a
  · simp [hba]
  · rw [if_neg hba, if_neg (fun h => hba (BitVec.eq_of_toNat_eq h))]

theorem Memory.writeByte_wf {m : Memory} (h : m.wf = true) (a : Word) (v : Byte) : (m.writeByte a v).wf = true :=
  Cells.wf_write Memory.unlisted h a.isLt v

theorem Memory.write_wf {m : Memory} (h : m.wf = true) (a : Word) (n : Nat) (v : BitVec (8 * n)) :
    (m.write a n v).wf = true := by
  induction n generalizing a with
  | zero => exact h
  | succ n ih => exact Memory.writeByte_wf (ih (a + 1) _) a _

/-- A byte outside the n bytes from a on reads as before. -/
theorem Memory.readByte_write_other {m : Memory} (h : m.wf = true) (a : Word) (n : Nat) (v : BitVec (8 * n)) (b : Word)
    (hb : ∀ k, k < n → b ≠ a + BitVec.ofNat 64 k) : (m.write a n v).readByte b = m.readByte b := by
  induction n generalizing a with
  | zero => rfl
  | succ n ih =>
    rw [Memory.write, Memory.readByte_writeByte (Memory.write_wf h _ _ _), if_neg (by simpa using hb 0 (by omega))]
    refine ih (a + 1) _ (fun k hk hbk => hb (k + 1) (by omega) ?_)
    rw [hbk, BitVec.add_assoc, BitVec.ofNat_add, BitVec.add_comm (BitVec.ofNat 64 k) _]
    rfl

/-- The k-th of the n bytes from a on is the k-th byte written. -/
theorem Memory.readByte_write {m : Memory} (h : m.wf = true) (a : Word) {n : Nat} (hn : n ≤ 2 ^ 64) (v : BitVec (8 * n))
    {k : Nat} (hk : k < n) :
    (m.write a n v).readByte (a + BitVec.ofNat 64 k) = v.extractLsb' (8 * k) 8 := by
  induction n generalizing a k with
  | zero => omega
  | succ n ih =>
    rw [Memory.write, Memory.readByte_writeByte (Memory.write_wf h _ _ _)]
    cases k with
    | zero => simp
    | succ k =>
      have hne : ¬ a + BitVec.ofNat 64 (k + 1) = a := by
        intro h'
        have h0 : BitVec.ofNat 64 (k + 1) = 0#64 := BitVec.add_right_eq_self.mp h'
        have := congrArg BitVec.toNat h0
        rw [BitVec.toNat_ofNat, Nat.mod_eq_of_lt (by omega)] at this
        simp at this
      have heq : a + BitVec.ofNat 64 (k + 1) = a + 1 + BitVec.ofNat 64 k := by
        rw [BitVec.add_assoc, BitVec.ofNat_add, BitVec.add_comm (BitVec.ofNat 64 k) _]
        rfl
      rw [if_neg hne, heq, ih (a + 1) (by omega) _ (by omega)]
      ext i hi
      simp only [BitVec.getElem_extractLsb', BitVec.getLsbD_extractLsb']
      have : 8 * k + i < 8 * n := by omega
      simp [this, show 8 + (8 * k + i) = 8 * (k + 1) + i by omega]

theorem Memory.wf_nil : Memory.wf [] = true := rfl

/-- Memory at reset is in canonical form. -/
theorem State.resetAt_wf (p : Params) (vector : Word) : (State.resetAt p vector).mem.wf = true := rfl

end Sys2Proof.Machine
end

