-- ==== Sys2Proof/Laws/State.lean ====
section
/-! SUPPORT. One lemma per field per state update, so that no proof unfolds a record update. -/

namespace Sys2Proof.Machine

variable (s : State)

/-! ## Registers read through an update of something else -/

theorem State.reg_congr {s t : State} (h : t.regs = s.regs) (r : RegIdx) : t.reg r = s.reg r := by
  simp only [State.reg, h]

@[simp] theorem State.reg_zero : s.reg 0#5 = 0#64 := rfl

@[simp] theorem State.setReg_zero (v : Word) : s.setReg 0#5 v = s := rfl

theorem State.reg_setReg (rd : RegIdx) (v : Word) (r : RegIdx) :
    (s.setReg rd v).reg r = if r = 0 then 0 else if r = rd then v else s.reg r := by
  by_cases hr : r = 0#5
  · subst hr; rfl
  · rw [if_neg (show ¬ r = 0 from hr)]
    by_cases hd : rd = 0#5
    · subst hd
      rw [if_neg hr]; rfl
    · have hset : (s.setReg rd v).regs = s.regs.set (rd.toNat - 1) v (reg_index_lt rd hd) := by
        rw [State.setReg, dif_neg hd]
      rw [State.reg, State.reg, dif_neg hr, dif_neg hr]
      simp only [hset]
      by_cases hrd : r = rd
      · subst hrd; simp
      · rw [if_neg hrd, Vector.getElem_set_ne]
        have h1 : rd.toNat ≠ r.toNat := fun h => hrd (BitVec.eq_of_toNat_eq h).symm
        have h2 : r.toNat ≠ 0 := fun h => hr (BitVec.eq_of_toNat_eq (by simpa using h))
        have h3 : rd.toNat ≠ 0 := fun h => hd (BitVec.eq_of_toNat_eq (by simpa using h))
        omega

/-! ## `setReg` -/

@[simp] theorem State.setReg_pc (r : RegIdx) (v : Word) : (s.setReg r v).pc = s.pc := by
  unfold State.setReg; split <;> rfl
@[simp] theorem State.setReg_mode (r : RegIdx) (v : Word) : (s.setReg r v).mode = s.mode := by
  unfold State.setReg; split <;> rfl
@[simp] theorem State.setReg_mstatus (r : RegIdx) (v : Word) : (s.setReg r v).mstatus = s.mstatus := by
  unfold State.setReg; split <;> rfl
@[simp] theorem State.setReg_mtvec (r : RegIdx) (v : Word) : (s.setReg r v).mtvec = s.mtvec := by
  unfold State.setReg; split <;> rfl
@[simp] theorem State.setReg_mepc (r : RegIdx) (v : Word) : (s.setReg r v).mepc = s.mepc := by
  unfold State.setReg; split <;> rfl
@[simp] theorem State.setReg_mcause (r : RegIdx) (v : Word) : (s.setReg r v).mcause = s.mcause := by
  unfold State.setReg; split <;> rfl
@[simp] theorem State.setReg_mtval (r : RegIdx) (v : Word) : (s.setReg r v).mtval = s.mtval := by
  unfold State.setReg; split <;> rfl
@[simp] theorem State.setReg_csrs (r : RegIdx) (v : Word) : (s.setReg r v).csrs = s.csrs := by
  unfold State.setReg; split <;> rfl
@[simp] theorem State.setReg_mem (r : RegIdx) (v : Word) : (s.setReg r v).mem = s.mem := by
  unfold State.setReg; split <;> rfl
@[simp] theorem State.setReg_oldMems (r : RegIdx) (v : Word) : (s.setReg r v).oldMems = s.oldMems := by
  unfold State.setReg; split <;> rfl
@[simp] theorem State.setReg_params (r : RegIdx) (v : Word) : (s.setReg r v).params = s.params := by
  unfold State.setReg; split <;> rfl
@[simp] theorem State.setReg_draws (r : RegIdx) (v : Word) : (s.setReg r v).draws = s.draws := by
  unfold State.setReg; split <;> rfl

/-! ## `advance` -/

@[simp] theorem State.advance_regs (n : Nat) : (s.advance n).regs = s.regs := rfl
@[simp] theorem State.advance_pc (n : Nat) : (s.advance n).pc = s.nextPc n := rfl
@[simp] theorem State.advance_mode (n : Nat) : (s.advance n).mode = s.mode := rfl
@[simp] theorem State.advance_mstatus (n : Nat) : (s.advance n).mstatus = s.mstatus := rfl
@[simp] theorem State.advance_mtvec (n : Nat) : (s.advance n).mtvec = s.mtvec := rfl
@[simp] theorem State.advance_mepc (n : Nat) : (s.advance n).mepc = s.mepc := rfl
@[simp] theorem State.advance_mcause (n : Nat) : (s.advance n).mcause = s.mcause := rfl
@[simp] theorem State.advance_mtval (n : Nat) : (s.advance n).mtval = s.mtval := rfl
@[simp] theorem State.advance_csrs (n : Nat) : (s.advance n).csrs = s.csrs := rfl
@[simp] theorem State.advance_mem (n : Nat) : (s.advance n).mem = s.mem := rfl
@[simp] theorem State.advance_oldMems (n : Nat) : (s.advance n).oldMems = s.oldMems := rfl
@[simp] theorem State.advance_params (n : Nat) : (s.advance n).params = s.params := rfl
@[simp] theorem State.advance_draws (n : Nat) : (s.advance n).draws = s.draws := rfl
@[simp] theorem State.reg_advance (n : Nat) (r : RegIdx) : (s.advance n).reg r = s.reg r := rfl

/-! ## `takeTrap` -/

@[simp] theorem State.takeTrap_regs (i : Bool) (c : Nat) (v : Word) : (s.takeTrap i c v).regs = s.regs := rfl
@[simp] theorem State.takeTrap_pc (i : Bool) (c : Nat) (v : Word) : (s.takeTrap i c v).pc = trapTarget s.mtvec i c := rfl
@[simp] theorem State.takeTrap_mode (i : Bool) (c : Nat) (v : Word) : (s.takeTrap i c v).mode = .machine := rfl
@[simp] theorem State.takeTrap_mstatus (i : Bool) (c : Nat) (v : Word) : (s.takeTrap i c v).mstatus = statusAtTrap s.mstatus s.mode := rfl
@[simp] theorem State.takeTrap_mtvec (i : Bool) (c : Nat) (v : Word) : (s.takeTrap i c v).mtvec = s.mtvec := rfl
@[simp] theorem State.takeTrap_mepc (i : Bool) (c : Nat) (v : Word) : (s.takeTrap i c v).mepc = s.pc := rfl
@[simp] theorem State.takeTrap_mcause (i : Bool) (c : Nat) (v : Word) : (s.takeTrap i c v).mcause = causeWord i c := rfl
@[simp] theorem State.takeTrap_mtval (i : Bool) (c : Nat) (v : Word) : (s.takeTrap i c v).mtval = v := rfl
@[simp] theorem State.takeTrap_csrs (i : Bool) (c : Nat) (v : Word) : (s.takeTrap i c v).csrs = s.csrs := rfl
@[simp] theorem State.takeTrap_mem (i : Bool) (c : Nat) (v : Word) : (s.takeTrap i c v).mem = s.mem := rfl
@[simp] theorem State.takeTrap_oldMems (i : Bool) (c : Nat) (v : Word) : (s.takeTrap i c v).oldMems = s.oldMems := rfl
@[simp] theorem State.takeTrap_params (i : Bool) (c : Nat) (v : Word) : (s.takeTrap i c v).params = s.params := rfl
@[simp] theorem State.takeTrap_draws (i : Bool) (c : Nat) (v : Word) : (s.takeTrap i c v).draws = s.draws := rfl
@[simp] theorem State.reg_takeTrap (i : Bool) (c : Nat) (v : Word) (r : RegIdx) : (s.takeTrap i c v).reg r = s.reg r := rfl

/-! ## `storeBytes` -/

@[simp] theorem State.storeBytes_regs (a : Word) (n : Nat) (v : BitVec (8 * n)) : (s.storeBytes a n v).regs = s.regs := rfl
@[simp] theorem State.storeBytes_pc (a : Word) (n : Nat) (v : BitVec (8 * n)) : (s.storeBytes a n v).pc = s.pc := rfl
@[simp] theorem State.storeBytes_mode (a : Word) (n : Nat) (v : BitVec (8 * n)) : (s.storeBytes a n v).mode = s.mode := rfl
@[simp] theorem State.storeBytes_mstatus (a : Word) (n : Nat) (v : BitVec (8 * n)) : (s.storeBytes a n v).mstatus = s.mstatus := rfl
@[simp] theorem State.storeBytes_mtvec (a : Word) (n : Nat) (v : BitVec (8 * n)) : (s.storeBytes a n v).mtvec = s.mtvec := rfl
@[simp] theorem State.storeBytes_mepc (a : Word) (n : Nat) (v : BitVec (8 * n)) : (s.storeBytes a n v).mepc = s.mepc := rfl
@[simp] theorem State.storeBytes_mcause (a : Word) (n : Nat) (v : BitVec (8 * n)) : (s.storeBytes a n v).mcause = s.mcause := rfl
@[simp] theorem State.storeBytes_mtval (a : Word) (n : Nat) (v : BitVec (8 * n)) : (s.storeBytes a n v).mtval = s.mtval := rfl
@[simp] theorem State.storeBytes_csrs (a : Word) (n : Nat) (v : BitVec (8 * n)) : (s.storeBytes a n v).csrs = s.csrs := rfl
@[simp] theorem State.storeBytes_mem (a : Word) (n : Nat) (v : BitVec (8 * n)) : (s.storeBytes a n v).mem = s.mem.write a n v := rfl
@[simp] theorem State.storeBytes_oldMems (a : Word) (n : Nat) (v : BitVec (8 * n)) : (s.storeBytes a n v).oldMems = s.mem :: s.oldMems := rfl
@[simp] theorem State.storeBytes_params (a : Word) (n : Nat) (v : BitVec (8 * n)) : (s.storeBytes a n v).params = s.params := rfl
@[simp] theorem State.storeBytes_draws (a : Word) (n : Nat) (v : BitVec (8 * n)) : (s.storeBytes a n v).draws = s.draws := rfl
@[simp] theorem State.reg_storeBytes (a : Word) (n : Nat) (v : BitVec (8 * n)) (r : RegIdx) : (s.storeBytes a n v).reg r = s.reg r := rfl

/-! ## `syncFetch` -/

@[simp] theorem State.syncFetch_regs : (s.syncFetch).regs = s.regs := rfl
@[simp] theorem State.syncFetch_pc : (s.syncFetch).pc = s.pc := rfl
@[simp] theorem State.syncFetch_mode : (s.syncFetch).mode = s.mode := rfl
@[simp] theorem State.syncFetch_mstatus : (s.syncFetch).mstatus = s.mstatus := rfl
@[simp] theorem State.syncFetch_mtvec : (s.syncFetch).mtvec = s.mtvec := rfl
@[simp] theorem State.syncFetch_mepc : (s.syncFetch).mepc = s.mepc := rfl
@[simp] theorem State.syncFetch_mcause : (s.syncFetch).mcause = s.mcause := rfl
@[simp] theorem State.syncFetch_mtval : (s.syncFetch).mtval = s.mtval := rfl
@[simp] theorem State.syncFetch_csrs : (s.syncFetch).csrs = s.csrs := rfl
@[simp] theorem State.syncFetch_mem : (s.syncFetch).mem = s.mem := rfl
@[simp] theorem State.syncFetch_oldMems : (s.syncFetch).oldMems = [] := rfl
@[simp] theorem State.syncFetch_params : (s.syncFetch).params = s.params := rfl
@[simp] theorem State.syncFetch_draws : (s.syncFetch).draws = s.draws := rfl
@[simp] theorem State.reg_syncFetch (r : RegIdx) : (s.syncFetch).reg r = s.reg r := rfl

/-! ## `tick` -/

@[simp] theorem State.tick_regs : (s.tick).regs = s.regs := rfl
@[simp] theorem State.tick_pc : (s.tick).pc = s.pc := rfl
@[simp] theorem State.tick_mode : (s.tick).mode = s.mode := rfl
@[simp] theorem State.tick_mstatus : (s.tick).mstatus = s.mstatus := rfl
@[simp] theorem State.tick_mtvec : (s.tick).mtvec = s.mtvec := rfl
@[simp] theorem State.tick_mepc : (s.tick).mepc = s.mepc := rfl
@[simp] theorem State.tick_mcause : (s.tick).mcause = s.mcause := rfl
@[simp] theorem State.tick_mtval : (s.tick).mtval = s.mtval := rfl
@[simp] theorem State.tick_csrs : (s.tick).csrs = s.csrs := rfl
@[simp] theorem State.tick_mem : (s.tick).mem = s.mem := rfl
@[simp] theorem State.tick_oldMems : (s.tick).oldMems = s.oldMems := rfl
@[simp] theorem State.tick_params : (s.tick).params = s.params := rfl
@[simp] theorem State.tick_draws : (s.tick).draws = s.draws + 1 := rfl
@[simp] theorem State.reg_tick (r : RegIdx) : (s.tick).reg r = s.reg r := rfl

/-! ## `writeCsr`, which leaves all but the CSRs alone -/

@[simp] theorem State.writeCsr_regs (a : CsrIdx) (v : Word) : (s.writeCsr a v).regs = s.regs := by
  unfold State.writeCsr; repeat (first | rfl | split)
@[simp] theorem State.writeCsr_pc (a : CsrIdx) (v : Word) : (s.writeCsr a v).pc = s.pc := by
  unfold State.writeCsr; repeat (first | rfl | split)
@[simp] theorem State.writeCsr_mode (a : CsrIdx) (v : Word) : (s.writeCsr a v).mode = s.mode := by
  unfold State.writeCsr; repeat (first | rfl | split)
@[simp] theorem State.writeCsr_mem (a : CsrIdx) (v : Word) : (s.writeCsr a v).mem = s.mem := by
  unfold State.writeCsr; repeat (first | rfl | split)
@[simp] theorem State.writeCsr_oldMems (a : CsrIdx) (v : Word) : (s.writeCsr a v).oldMems = s.oldMems := by
  unfold State.writeCsr; repeat (first | rfl | split)
@[simp] theorem State.writeCsr_params (a : CsrIdx) (v : Word) : (s.writeCsr a v).params = s.params := by
  unfold State.writeCsr; repeat (first | rfl | split)
@[simp] theorem State.writeCsr_draws (a : CsrIdx) (v : Word) : (s.writeCsr a v).draws = s.draws := by
  unfold State.writeCsr; repeat (first | rfl | split)
@[simp] theorem State.reg_writeCsr (a : CsrIdx) (v : Word) (r : RegIdx) : (s.writeCsr a v).reg r = s.reg r :=
  State.reg_congr (s.writeCsr_regs a v) r

/-! ## What reads only some fields -/

@[simp] theorem State.nextPc_setReg (r : RegIdx) (v : Word) (n : Nat) : (s.setReg r v).nextPc n = s.nextPc n := by
  simp [State.nextPc]

@[simp] theorem State.nextPc_writeCsr (a : CsrIdx) (v : Word) (n : Nat) : (s.writeCsr a v).nextPc n = s.nextPc n := by
  simp [State.nextPc]

@[simp] theorem State.readCsr_setReg (r : RegIdx) (v : Word) (a : CsrIdx) : (s.setReg r v).readCsr a = s.readCsr a := by
  simp [State.readCsr]

@[simp] theorem State.readCsr_advance (n : Nat) (a : CsrIdx) : (s.advance n).readCsr a = s.readCsr a := rfl

end Sys2Proof.Machine
end

