-- ==== Sys2Proof/Laws/Ops.lean ====
section
/-! SUPPORT. One lemma for each shared operation that says everything it can do. -/

namespace Sys2Proof.Machine

theorem SameMemory.refl {s t : State} (h : t.mem = s.mem) (ho : t.oldMems = s.oldMems) : SameMemory s t :=
  ⟨h, ho, fun a => by rw [h]⟩

theorem SameRegs.of_regs {s t : State} (h : t.regs = s.regs) : SameRegs s t := State.reg_congr h

variable (s : State)

/-! ## Results and control transfer -/

theorem State.regResult_completes (len : Nat) (rd : RegIdx) (v : Word) :
    Completes (s.regResult len rd v) (fun t => RegEffect s t rd v (s.nextPc len)) :=
  ⟨_, rfl, State.reg_setReg s rd v, by simp, .refl (by simp) (by simp), by simp [SameSystem], by simp [SameModel]⟩

theorem State.branch_completes (len : Nat) (taken : Bool) (imm : Word) :
    Completes (s.branch len taken imm) (fun t => PcEffect s t (if taken then s.pc + imm else s.nextPc len)) :=
  ⟨_, rfl, rfl, fun _ => rfl, .refl rfl rfl, ⟨rfl, rfl, rfl, rfl, rfl, rfl, rfl⟩, ⟨rfl, rfl⟩⟩

theorem State.link_completes (len : Nat) (rd : RegIdx) (target : Word) :
    Completes (s.link len rd target) (fun t => RegEffect s t rd (s.nextPc len) target) :=
  ⟨_, rfl, State.reg_setReg s rd _, rfl, .refl (by simp) (by simp), by simp [SameSystem], by simp [SameModel]⟩

/-! ## Traps -/

theorem statusMPIE_atTrap (v : Word) (m : Mode) : statusMPIE (statusAtTrap v m) = statusMIE v := by
  ext i hi
  simp only [statusMPIE, statusMIE, statusAtTrap, BitVec.getElem_extractLsb', BitVec.getLsbD_append]
  simp [show i = 0 by omega]

theorem statusMIE_atTrap (v : Word) (m : Mode) : statusMIE (statusAtTrap v m) = 0 := by
  ext i hi
  simp only [statusMIE, statusAtTrap, BitVec.getElem_extractLsb', BitVec.getLsbD_append]
  simp [show i = 0 by omega]

theorem statusMPP_atTrap (v : Word) (m : Mode) : statusMPP (statusAtTrap v m) = m.bits := by
  ext i hi
  simp only [statusMPP, statusAtTrap, BitVec.getElem_extractLsb', BitVec.getLsbD_append]
  have : i = 0 ∨ i = 1 := by omega
  rcases this with h | h <;> simp [h]

/-- Trap entry keeps every bit of mstatus but MIE, MPIE and MPP. -/
theorem statusAtTrap_other (v : Word) (m : Mode) (k : Nat) (h3 : k ≠ 3) (h7 : k ≠ 7) (h11 : k ≠ 11) (h12 : k ≠ 12) :
    (statusAtTrap v m).getLsbD k = v.getLsbD k := by
  simp only [statusAtTrap, statusMIE, BitVec.getLsbD_append, BitVec.getLsbD_extractLsb']
  by_cases hk : k < 64
  · interval_cases k <;> simp_all
  · rw [BitVec.getLsbD_of_ge v k (by omega)]
    simp only [show ¬ k < 3 by omega, show ¬ k - 3 < 1 by omega, show ¬ k - 3 - 1 < 3 by omega,
      show ¬ k - 3 - 1 - 3 < 1 by omega, show ¬ k - 3 - 1 - 3 - 1 < 3 by omega,
      show ¬ k - 3 - 1 - 3 - 1 - 3 < 2 by omega, show ¬ k - 3 - 1 - 3 - 1 - 3 - 2 < 51 by omega]
    simp

theorem trapTarget_exception (mtvec : Word) (code : Nat) : trapTarget mtvec false code = mtvec &&& ~~~3#64 := by
  apply BitVec.eq_of_getLsbD_eq
  intro i hi
  simp only [trapTarget, trapBase, Bool.false_and, Bool.false_eq_true, if_false, BitVec.getLsbD_append,
    BitVec.getLsbD_extractLsb', BitVec.getLsbD_and, BitVec.getLsbD_not]
  by_cases h : i < 2
  · interval_cases i <;> simp
  · have h2 : (3#64).getLsbD i = false := by
      have : (3 : Nat).testBit i = false := Nat.testBit_eq_false_of_lt (by
        calc (3 : Nat) < 2 ^ 2 := by norm_num
          _ ≤ 2 ^ i := Nat.pow_le_pow_right (by norm_num) (by omega))
      simp [BitVec.getLsbD_ofNat, this]
    rw [h2]
    simp [h, hi, show i - 2 < 62 by omega, show 2 + (i - 2) = i by omega]

theorem causeWord_exception (code : Nat) (h : code < 2 ^ 63) : causeWord false code = BitVec.ofNat 64 code := by
  apply BitVec.eq_of_toNat_eq
  rw [causeWord, BitVec.toNat_append]
  simp
  omega

/-- Everything entry to an exception's handler does. -/
theorem State.takeTrap_effect (code : Nat) (h : code < 2 ^ 63) (tval : Word) :
    TrapEffect s (s.takeTrap false code tval) code tval :=
  ⟨rfl, causeWord_exception code h, rfl, statusMPIE_atTrap _ _, statusMIE_atTrap _ _, statusMPP_atTrap _ _,
    statusAtTrap_other _ _, rfl, trapTarget_exception _ code, rfl, rfl, fun _ => rfl, .refl rfl rfl, ⟨rfl, rfl⟩⟩

theorem Exc.code_lt (e : Exc) : e.code < 2 ^ 63 := by cases e <;> decide

theorem State.exception_completes (e : Exc) :
    Completes (s.exception e) (fun t => TrapEffect s t e.code (Config.freeTval s.draws)) :=
  ⟨_, rfl, s.takeTrap_effect _ e.code_lt _⟩

theorem State.illegalInstruction_completes (bits : Word32) :
    Completes (s.illegalInstruction bits) (fun t => TrapEffect s t 2 (illegalTval s.params bits)) :=
  ⟨_, rfl, s.takeTrap_effect 2 (by norm_num) _⟩

theorem State.illegalTval_eq (bits : Word32) : illegalTval s.params bits = tvalOf s bits := by
  unfold illegalTval tvalOf; cases s.params.illegalTval <;> rfl

/-! ## Loads and stores -/

theorem State.misalignedTraps_of_allowed {a : Word} {n : Nat} (h : AccessAllowed s a n) : s.misalignedTraps a n = false := by
  unfold State.misalignedTraps; rcases h with h | h <;> simp [h]

theorem State.misalignedTraps_of_traps {a : Word} {n : Nat} (h : AccessTraps s a n) : s.misalignedTraps a n = true := by
  unfold State.misalignedTraps; simp [h.1, h.2]

theorem State.misalignedTraps_byte (a : Word) : s.misalignedTraps a 1 = false := by
  unfold State.misalignedTraps; simp [Nat.mod_one]

theorem Memory.read_one (m : Memory) (a : Word) : m.read a 1 = m.readByte a := BitVec.zero_width_append _ _

theorem Memory.read_two (m : Memory) (a : Word) : m.read a 2 = m.bytes2 a :=
  congrArg (fun v : BitVec 8 => v ++ m.readByte a) (Memory.read_one m (a + 1))

theorem Memory.read_four (m : Memory) (a : Word) : m.read a 4 = m.bytes4 a := by
  have h : m.read a 4 = (m.bytes2 (a + 1 + 1) ++ m.readByte (a + 1) : BitVec 24) ++ m.readByte a :=
    congrArg (fun v : BitVec 16 => (v ++ m.readByte (a + 1) : BitVec 24) ++ m.readByte a) (Memory.read_two m (a + 1 + 1))
  rw [h, BitVec.add_assoc]
  exact BitVec.append_assoc

theorem Memory.read_eight (m : Memory) (a : Word) : m.read a 8 = m.bytes8 a := by
  have h : m.read a 8 = (((m.bytes4 (a + 1 + 1 + 1 + 1) ++ m.readByte (a + 1 + 1 + 1) : BitVec 40) ++
      m.readByte (a + 1 + 1) : BitVec 48) ++ m.readByte (a + 1) : BitVec 56) ++ m.readByte a :=
    congrArg (fun v : BitVec 32 => (((v ++ m.readByte (a + 1 + 1 + 1) : BitVec 40) ++ m.readByte (a + 1 + 1) : BitVec 48) ++
      m.readByte (a + 1) : BitVec 56) ++ m.readByte a) (Memory.read_four m (a + 1 + 1 + 1 + 1))
  rw [h]
  simp only [BitVec.add_assoc]
  apply BitVec.eq_of_getLsbD_eq
  intro i hi
  simp only [Memory.bytes8, Memory.bytes4, Memory.bytes2, BitVec.getLsbD_append, BitVec.add_assoc]
  have e : (1 + 1 : Word) = 2 := by decide
  simp only [e]
  split_ifs <;> first | rfl | omega

theorem State.load_traps (len n : Nat) (ext : BitVec (8 * n) → Word) (rd rs1 : RegIdx) (imm : Word)
    (h : s.misalignedTraps (s.effAddr rs1 imm) n = true) :
    Completes (s.load len n ext rd rs1 imm) (fun t => TrapEffect s t 4 (Config.freeTval s.draws)) := by
  rw [State.load, if_pos h]; exact s.exception_completes .loadMisaligned

theorem State.load_completes (len n : Nat) (ext : BitVec (8 * n) → Word) (rd rs1 : RegIdx) (imm : Word)
    (h : s.misalignedTraps (s.effAddr rs1 imm) n = false) :
    Completes (s.load len n ext rd rs1 imm)
      (fun t => RegEffect s t rd (ext (s.mem.read (s.effAddr rs1 imm) n)) (s.nextPc len)) := by
  rw [State.load, if_neg (by simp [h])]; exact s.regResult_completes len rd _

theorem State.store_traps (len n : Nat) (rs1 rs2 : RegIdx) (imm : Word)
    (h : s.misalignedTraps (s.effAddr rs1 imm) n = true) :
    Completes (s.store len n rs1 rs2 imm) (fun t => TrapEffect s t 6 (Config.freeTval s.draws)) := by
  rw [State.store, if_pos h]; exact s.exception_completes .storeMisaligned

theorem State.store_completes (hw : s.mem.wf = true) (len : Nat) {n : Nat} (hn : n ≤ 2 ^ 64) (rs1 rs2 : RegIdx) (imm : Word)
    (h : s.misalignedTraps (s.effAddr rs1 imm) n = false) :
    Completes (s.store len n rs1 rs2 imm)
      (fun t => StoreEffect s t (s.effAddr rs1 imm) n ((s.reg rs2).extractLsb' 0 (8 * n)) (s.nextPc len)) := by
  rw [State.store, if_neg (by simp [h])]
  exact ⟨_, rfl, fun k hk => Memory.readByte_write hw _ hn _ hk, fun b hb => Memory.readByte_write_other hw _ n _ b hb,
    rfl, rfl, fun _ => rfl, ⟨rfl, rfl, rfl, rfl, rfl, rfl, rfl⟩, ⟨rfl, rfl⟩⟩

/-! ## CSR access -/

/-- A CSR write, for a CSR that is no counter: the value at that CSR, and every other CSR as before. -/
theorem State.readCsr_writeCsr (hw : Cells.wf 0#64 0xC00 s.csrs = true) (a : CsrIdx) (hc : isCounter a = false) (v : Word)
    (b : CsrIdx) : (s.writeCsr a v).readCsr b = if b = a then v else s.readCsr b := by
  have key : ∀ c : CsrIdx, (b.toNat = c.toNat ↔ b = c) := fun c => ⟨BitVec.eq_of_toNat_eq, fun h => h ▸ rfl⟩
  have hr := Cells.read_write 0#64 hw a.toNat v b.toNat
  simp only [key a] at hr
  unfold State.writeCsr State.readCsr
  by_cases hba : b = a
  · subst hba
    rw [if_pos rfl] at hr ⊢
    by_cases h1 : b = csrMstatus
    · simp [h1]
    · by_cases h2 : b = csrMtvec
      · simp [h2, show ¬ csrMtvec = csrMstatus by decide]
      · by_cases h3 : b = csrMepc
        · simp [h3, show ¬ csrMepc = csrMstatus by decide, show ¬ csrMepc = csrMtvec by decide]
        · by_cases h4 : b = csrMcause
          · simp [h4, show ¬ csrMcause = csrMstatus by decide, show ¬ csrMcause = csrMtvec by decide,
              show ¬ csrMcause = csrMepc by decide]
          · by_cases h5 : b = csrMtval
            · simp [h5, show ¬ csrMtval = csrMstatus by decide, show ¬ csrMtval = csrMtvec by decide,
                show ¬ csrMtval = csrMepc by decide, show ¬ csrMtval = csrMcause by decide]
            · simp only [if_neg h1, if_neg h2, if_neg h3, if_neg h4, if_neg h5, hc, Bool.false_eq_true, if_false]
              exact hr
  · rw [if_neg hba] at hr ⊢
    by_cases h1 : a = csrMstatus
    · subst h1; simp [hba]
    · by_cases h2 : a = csrMtvec
      · subst h2; simp [h1, hba]
      · by_cases h3 : a = csrMepc
        · subst h3; simp [h1, h2, hba]
        · by_cases h4 : a = csrMcause
          · subst h4; simp [h1, h2, h3, hba]
          · by_cases h5 : a = csrMtval
            · subst h5; simp [h1, h2, h3, h4, hba]
            · simp only [if_neg h1, if_neg h2, if_neg h3, if_neg h4, if_neg h5, hr]

theorem State.csrPermitted_iff {a : CsrIdx} {writes : Bool} {W : Prop} (h : writes = true ↔ W) :
    s.csrPermitted a writes = true ↔ CsrAllowed s a W := by
  unfold State.csrPermitted CsrAllowed csrReadOnly csrPrivilege
  cases writes <;> simp_all [and_assoc]

/-- An access that writes is permitted only to a CSR that is not read-only. -/
theorem State.csrPermitted_write {a : CsrIdx} (h : s.csrPermitted a true = true) : csrReadOnly a = false := by
  simp only [State.csrPermitted, Bool.and_eq_true, Bool.true_and, Bool.not_eq_true'] at h
  exact h.2

theorem isCounter_of_writable {a : CsrIdx} (h : csrReadOnly a = false) : isCounter a = false := by
  simp only [isCounter, Bool.or_eq_false_iff, beq_eq_false_iff_ne]
  refine ⟨⟨?_, ?_⟩, ?_⟩ <;> (rintro rfl; exact absurd h (by decide))

theorem State.csrOp_completes (hw : Cells.wf 0#64 0xC00 s.csrs = true) (len : Nat) (bits : Word32) (rd : RegIdx)
    (a : CsrIdx) (writes : Bool) (f : Word → Word) (h : s.csrPermitted a writes = true) :
    Completes (s.csrOp len bits rd a writes f)
      (fun t => CsrEffect s t rd a (if writes then some (f (s.readCsr a)) else none) (s.nextPc len)) := by
  rw [State.csrOp, if_pos h]
  cases writes with
  | false =>
    refine ⟨_, rfl, State.reg_setReg s rd _, fun b => ?_, by simp, by simp, .refl (by simp) (by simp), by simp [SameModel]⟩
    by_cases hb : b = a <;> simp [hb]
  | true =>
    have hc := isCounter_of_writable (s.csrPermitted_write h)
    refine ⟨_, rfl, fun r => ?_, fun b => ?_, by simp, by simp, .refl (by simp) (by simp), by simp [SameModel]⟩
    · simp [State.reg_setReg]
    · simp [State.readCsr_writeCsr s hw a hc]

theorem State.csrOp_refused (len : Nat) (bits : Word32) (rd : RegIdx) (a : CsrIdx) (writes : Bool) (f : Word → Word)
    (h : s.csrPermitted a writes = false) :
    Completes (s.csrOp len bits rd a writes f) (fun t => TrapEffect s t 2 (illegalTval s.params bits)) := by
  rw [State.csrOp, if_neg (by simp [h])]; exact s.illegalInstruction_completes bits

/-! ## The compressed paths and the fetch -/

/-- Either error of a fetch that decodes to no form is illegal instruction. -/
@[simp] theorem State.undecodable_eq (e : DecodingError) (fetch : Word32) :
    s.undecodable e fetch = s.illegalInstruction (instructionBits fetch) := by cases e <;> rfl

/-- A variant other than `Illegal` is of class `Legal`. -/
theorem Instruction.encodingClass_eq (v : Instruction) :
    v.encodingClass = if v.tag = 0 then .illegalZero else .legal := by cases v <;> rfl

theorem State.onExpandPath_expand (h : s.params.compressedPath = .expand) (parcel : Word32) (run : Result) :
    s.onExpandPath parcel run = run := by rw [State.onExpandPath, h]

theorem State.onExpandPath_quadrant (h : s.params.compressedPath = .quadrant) (parcel : Word32) (run : Result) :
    s.onExpandPath parcel run = s.illegalInstruction parcel := by rw [State.onExpandPath, h]

/-- With no older memory left, the fetch is memory's word. -/
theorem State.fetchWord_eq (h : s.oldMems = []) : s.fetchWord = s.mem.read s.pc 4 := by
  rw [State.fetchWord, h]; rfl

/-- A fetch is one of its candidates. -/
theorem State.fetchWord_mem : s.fetchWord ∈ s.fetchCandidates := by
  unfold State.fetchWord
  split
  · exact List.mem_map_of_mem List.mem_cons_self
  · have hlen : 0 < s.fetchCandidates.length := by simp [State.fetchCandidates]
    rw [pick, List.getD_eq_getElem _ _ (Nat.mod_lt _ hlen)]
    exact List.getElem_mem _

end Sys2Proof.Machine
end

