-- ==== Sys2Proof/Laws/PerInstr.lean ====
section
/-! SUPPORT. Per instruction: the low two bits of its encoding tell its length (20_memory.md R42), and a compressed one has an
empty upper half. -/

namespace Sys2Proof.Laws.LowBits

open Sys2Proof.Machine

/-- The low two bits of the word are 11 exactly for the 4-byte forms; a 2-byte form has nothing in the upper half. -/
def Statement (i : Instr) : Prop :=
  (i.len = 4 → (encode i).extractLsb' 0 2 = 0b11#2) ∧
    (i.len = 2 → (encode i).extractLsb' 0 2 ≠ 0b11#2 ∧ (encode i).extractLsb' 16 16 = 0#16)

theorem low_append {n m : Nat} (x : BitVec n) (y : BitVec m) (h : 2 ≤ m) :
    (x ++ y).extractLsb' 0 2 = y.extractLsb' 0 2 := by
  rw [BitVec.extractLsb'_append_eq_of_add_le (by omega)]

/-- A 4-byte form whose opcode ends in 11. -/
theorem of_opcode {i : Instr} {x : BitVec 25} {op : BitVec 7} (hl : i.len = 4) (he : encode i = x ++ op)
    (h : op.extractLsb' 0 2 = 0b11#2) : Statement i :=
  ⟨fun _ => by rw [he, low_append _ _ (by decide), h], fun h2 => by omega⟩

/-- A 2-byte form whose quadrant is not 11. -/
theorem of_quadrant {i : Instr} {x : BitVec 14} {q : BitVec 2} (hl : i.len = 2) (he : encode i = inLowHalf (x ++ q))
    (h : q ≠ 0b11#2) : Statement i := by
  refine ⟨fun h4 => by omega, fun _ => ?_⟩
  rw [he, inLowHalf]
  refine ⟨?_, ?_⟩
  · rw [low_append _ _ (by decide), low_append _ _ (by decide), BitVec.extractLsb'_eq_self]
    exact h
  · rw [BitVec.extractLsb'_append_eq_of_le (by decide)]; rfl

theorem illegal : Statement .illegal := of_quadrant rfl (x := 0#14) (q := 0#2) (by decide) (by decide)

theorem lui (rd : RegIdx) (imm : BitVec 20) : Statement (.lui rd imm) := of_opcode rfl rfl rfl

theorem auipc (rd : RegIdx) (imm : BitVec 20) : Statement (.auipc rd imm) := of_opcode rfl rfl rfl

theorem jal (rd : RegIdx) (imm : BitVec 21) : Statement (.jal rd imm) := of_opcode rfl rfl rfl

theorem jalr (rd rs1 : RegIdx) (imm : BitVec 12) : Statement (.jalr rd rs1 imm) := of_opcode rfl rfl rfl

theorem beq (rs1 rs2 : RegIdx) (imm : BitVec 13) : Statement (.beq rs1 rs2 imm) := of_opcode rfl rfl rfl

theorem bne (rs1 rs2 : RegIdx) (imm : BitVec 13) : Statement (.bne rs1 rs2 imm) := of_opcode rfl rfl rfl

theorem blt (rs1 rs2 : RegIdx) (imm : BitVec 13) : Statement (.blt rs1 rs2 imm) := of_opcode rfl rfl rfl

theorem bge (rs1 rs2 : RegIdx) (imm : BitVec 13) : Statement (.bge rs1 rs2 imm) := of_opcode rfl rfl rfl

theorem bltu (rs1 rs2 : RegIdx) (imm : BitVec 13) : Statement (.bltu rs1 rs2 imm) := of_opcode rfl rfl rfl

theorem bgeu (rs1 rs2 : RegIdx) (imm : BitVec 13) : Statement (.bgeu rs1 rs2 imm) := of_opcode rfl rfl rfl

theorem lb (rd rs1 : RegIdx) (imm : BitVec 12) : Statement (.lb rd rs1 imm) := of_opcode rfl rfl rfl

theorem lh (rd rs1 : RegIdx) (imm : BitVec 12) : Statement (.lh rd rs1 imm) := of_opcode rfl rfl rfl

theorem lw (rd rs1 : RegIdx) (imm : BitVec 12) : Statement (.lw rd rs1 imm) := of_opcode rfl rfl rfl

theorem ld (rd rs1 : RegIdx) (imm : BitVec 12) : Statement (.ld rd rs1 imm) := of_opcode rfl rfl rfl

theorem lbu (rd rs1 : RegIdx) (imm : BitVec 12) : Statement (.lbu rd rs1 imm) := of_opcode rfl rfl rfl

theorem lhu (rd rs1 : RegIdx) (imm : BitVec 12) : Statement (.lhu rd rs1 imm) := of_opcode rfl rfl rfl

theorem lwu (rd rs1 : RegIdx) (imm : BitVec 12) : Statement (.lwu rd rs1 imm) := of_opcode rfl rfl rfl

theorem sb (rs1 rs2 : RegIdx) (imm : BitVec 12) : Statement (.sb rs1 rs2 imm) := of_opcode rfl rfl rfl

theorem sh (rs1 rs2 : RegIdx) (imm : BitVec 12) : Statement (.sh rs1 rs2 imm) := of_opcode rfl rfl rfl

theorem sw (rs1 rs2 : RegIdx) (imm : BitVec 12) : Statement (.sw rs1 rs2 imm) := of_opcode rfl rfl rfl

theorem sd (rs1 rs2 : RegIdx) (imm : BitVec 12) : Statement (.sd rs1 rs2 imm) := of_opcode rfl rfl rfl

theorem addi (rd rs1 : RegIdx) (imm : BitVec 12) : Statement (.addi rd rs1 imm) := of_opcode rfl rfl rfl

theorem slti (rd rs1 : RegIdx) (imm : BitVec 12) : Statement (.slti rd rs1 imm) := of_opcode rfl rfl rfl

theorem sltiu (rd rs1 : RegIdx) (imm : BitVec 12) : Statement (.sltiu rd rs1 imm) := of_opcode rfl rfl rfl

theorem xori (rd rs1 : RegIdx) (imm : BitVec 12) : Statement (.xori rd rs1 imm) := of_opcode rfl rfl rfl

theorem ori (rd rs1 : RegIdx) (imm : BitVec 12) : Statement (.ori rd rs1 imm) := of_opcode rfl rfl rfl

theorem andi (rd rs1 : RegIdx) (imm : BitVec 12) : Statement (.andi rd rs1 imm) := of_opcode rfl rfl rfl

theorem slli (rd rs1 : RegIdx) (shamt : BitVec 6) : Statement (.slli rd rs1 shamt) := of_opcode rfl rfl rfl

theorem srli (rd rs1 : RegIdx) (shamt : BitVec 6) : Statement (.srli rd rs1 shamt) := of_opcode rfl rfl rfl

theorem srai (rd rs1 : RegIdx) (shamt : BitVec 6) : Statement (.srai rd rs1 shamt) := of_opcode rfl rfl rfl

theorem add (rd rs1 rs2 : RegIdx) : Statement (.add rd rs1 rs2) := of_opcode rfl rfl rfl

theorem sub (rd rs1 rs2 : RegIdx) : Statement (.sub rd rs1 rs2) := of_opcode rfl rfl rfl

theorem sll (rd rs1 rs2 : RegIdx) : Statement (.sll rd rs1 rs2) := of_opcode rfl rfl rfl

theorem slt (rd rs1 rs2 : RegIdx) : Statement (.slt rd rs1 rs2) := of_opcode rfl rfl rfl

theorem sltu (rd rs1 rs2 : RegIdx) : Statement (.sltu rd rs1 rs2) := of_opcode rfl rfl rfl

theorem xor (rd rs1 rs2 : RegIdx) : Statement (.xor rd rs1 rs2) := of_opcode rfl rfl rfl

theorem srl (rd rs1 rs2 : RegIdx) : Statement (.srl rd rs1 rs2) := of_opcode rfl rfl rfl

theorem sra (rd rs1 rs2 : RegIdx) : Statement (.sra rd rs1 rs2) := of_opcode rfl rfl rfl

theorem or (rd rs1 rs2 : RegIdx) : Statement (.or rd rs1 rs2) := of_opcode rfl rfl rfl

theorem and (rd rs1 rs2 : RegIdx) : Statement (.and rd rs1 rs2) := of_opcode rfl rfl rfl

theorem mul (rd rs1 rs2 : RegIdx) : Statement (.mul rd rs1 rs2) := of_opcode rfl rfl rfl

theorem mulh (rd rs1 rs2 : RegIdx) : Statement (.mulh rd rs1 rs2) := of_opcode rfl rfl rfl

theorem mulhsu (rd rs1 rs2 : RegIdx) : Statement (.mulhsu rd rs1 rs2) := of_opcode rfl rfl rfl

theorem mulhu (rd rs1 rs2 : RegIdx) : Statement (.mulhu rd rs1 rs2) := of_opcode rfl rfl rfl

theorem div (rd rs1 rs2 : RegIdx) : Statement (.div rd rs1 rs2) := of_opcode rfl rfl rfl

theorem divu (rd rs1 rs2 : RegIdx) : Statement (.divu rd rs1 rs2) := of_opcode rfl rfl rfl

theorem rem (rd rs1 rs2 : RegIdx) : Statement (.rem rd rs1 rs2) := of_opcode rfl rfl rfl

theorem remu (rd rs1 rs2 : RegIdx) : Statement (.remu rd rs1 rs2) := of_opcode rfl rfl rfl

theorem addiw (rd rs1 : RegIdx) (imm : BitVec 12) : Statement (.addiw rd rs1 imm) := of_opcode rfl rfl rfl

theorem slliw (rd rs1 : RegIdx) (shamt : BitVec 5) : Statement (.slliw rd rs1 shamt) := of_opcode rfl rfl rfl

theorem srliw (rd rs1 : RegIdx) (shamt : BitVec 5) : Statement (.srliw rd rs1 shamt) := of_opcode rfl rfl rfl

theorem sraiw (rd rs1 : RegIdx) (shamt : BitVec 5) : Statement (.sraiw rd rs1 shamt) := of_opcode rfl rfl rfl

theorem addw (rd rs1 rs2 : RegIdx) : Statement (.addw rd rs1 rs2) := of_opcode rfl rfl rfl

theorem subw (rd rs1 rs2 : RegIdx) : Statement (.subw rd rs1 rs2) := of_opcode rfl rfl rfl

theorem sllw (rd rs1 rs2 : RegIdx) : Statement (.sllw rd rs1 rs2) := of_opcode rfl rfl rfl

theorem srlw (rd rs1 rs2 : RegIdx) : Statement (.srlw rd rs1 rs2) := of_opcode rfl rfl rfl

theorem sraw (rd rs1 rs2 : RegIdx) : Statement (.sraw rd rs1 rs2) := of_opcode rfl rfl rfl

theorem mulw (rd rs1 rs2 : RegIdx) : Statement (.mulw rd rs1 rs2) := of_opcode rfl rfl rfl

theorem divw (rd rs1 rs2 : RegIdx) : Statement (.divw rd rs1 rs2) := of_opcode rfl rfl rfl

theorem divuw (rd rs1 rs2 : RegIdx) : Statement (.divuw rd rs1 rs2) := of_opcode rfl rfl rfl

theorem remw (rd rs1 rs2 : RegIdx) : Statement (.remw rd rs1 rs2) := of_opcode rfl rfl rfl

theorem remuw (rd rs1 rs2 : RegIdx) : Statement (.remuw rd rs1 rs2) := of_opcode rfl rfl rfl

theorem fence (rd rs1 : RegIdx) (fm pred succ : BitVec 4) : Statement (.fence rd rs1 fm pred succ) :=
  of_opcode rfl rfl rfl

theorem fenceI (rd rs1 : RegIdx) (imm : BitVec 12) : Statement (.fenceI rd rs1 imm) := of_opcode rfl rfl rfl

theorem ecall : Statement .ecall := ⟨fun _ => by decide, fun h => by cases h⟩

theorem ebreak : Statement .ebreak := ⟨fun _ => by decide, fun h => by cases h⟩

theorem csrrw (rd rs1 : RegIdx) (csr : CsrIdx) : Statement (.csrrw rd rs1 csr) := of_opcode rfl rfl rfl

theorem csrrs (rd rs1 : RegIdx) (csr : CsrIdx) : Statement (.csrrs rd rs1 csr) := of_opcode rfl rfl rfl

theorem csrrc (rd rs1 : RegIdx) (csr : CsrIdx) : Statement (.csrrc rd rs1 csr) := of_opcode rfl rfl rfl

theorem csrrwi (rd : RegIdx) (zimm : BitVec 5) (csr : CsrIdx) : Statement (.csrrwi rd zimm csr) := of_opcode rfl rfl rfl

theorem csrrsi (rd : RegIdx) (zimm : BitVec 5) (csr : CsrIdx) : Statement (.csrrsi rd zimm csr) := of_opcode rfl rfl rfl

theorem csrrci (rd : RegIdx) (zimm : BitVec 5) (csr : CsrIdx) : Statement (.csrrci rd zimm csr) := of_opcode rfl rfl rfl

theorem cAddi4spn (rdp : PopIdx) (nzuimm : BitVec 10) : Statement (.cAddi4spn rdp nzuimm) :=
  of_quadrant rfl rfl (by decide)

theorem cLw (rdp rs1p : PopIdx) (uimm : BitVec 7) : Statement (.cLw rdp rs1p uimm) := of_quadrant rfl rfl (by decide)

theorem cLd (rdp rs1p : PopIdx) (uimm : BitVec 8) : Statement (.cLd rdp rs1p uimm) := of_quadrant rfl rfl (by decide)

theorem cSw (rs1p rs2p : PopIdx) (uimm : BitVec 7) : Statement (.cSw rs1p rs2p uimm) := of_quadrant rfl rfl (by decide)

theorem cSd (rs1p rs2p : PopIdx) (uimm : BitVec 8) : Statement (.cSd rs1p rs2p uimm) := of_quadrant rfl rfl (by decide)

theorem cNop : Statement .cNop := of_quadrant rfl (x := 0#14) (q := 1#2) (by decide) (by decide)

theorem cAddi (rd : RegIdx) (imm : BitVec 6) : Statement (.cAddi rd imm) := of_quadrant rfl rfl (by decide)

theorem cAddiw (rd : RegIdx) (imm : BitVec 6) : Statement (.cAddiw rd imm) := of_quadrant rfl rfl (by decide)

theorem cLi (rd : RegIdx) (imm : BitVec 6) : Statement (.cLi rd imm) := of_quadrant rfl rfl (by decide)

theorem cAddi16sp (nzimm : BitVec 10) : Statement (.cAddi16sp nzimm) := of_quadrant rfl rfl (by decide)

theorem cLui (rd : RegIdx) (imm : BitVec 6) : Statement (.cLui rd imm) := of_quadrant rfl rfl (by decide)

theorem cSrli (rdp : PopIdx) (shamt : BitVec 6) : Statement (.cSrli rdp shamt) := of_quadrant rfl rfl (by decide)

theorem cSrai (rdp : PopIdx) (shamt : BitVec 6) : Statement (.cSrai rdp shamt) := of_quadrant rfl rfl (by decide)

theorem cAndi (rdp : PopIdx) (imm : BitVec 6) : Statement (.cAndi rdp imm) := of_quadrant rfl rfl (by decide)

theorem cSub (rdp rs2p : PopIdx) : Statement (.cSub rdp rs2p) := of_quadrant rfl rfl (by decide)

theorem cXor (rdp rs2p : PopIdx) : Statement (.cXor rdp rs2p) := of_quadrant rfl rfl (by decide)

theorem cOr (rdp rs2p : PopIdx) : Statement (.cOr rdp rs2p) := of_quadrant rfl rfl (by decide)

theorem cAnd (rdp rs2p : PopIdx) : Statement (.cAnd rdp rs2p) := of_quadrant rfl rfl (by decide)

theorem cSubw (rdp rs2p : PopIdx) : Statement (.cSubw rdp rs2p) := of_quadrant rfl rfl (by decide)

theorem cAddw (rdp rs2p : PopIdx) : Statement (.cAddw rdp rs2p) := of_quadrant rfl rfl (by decide)

theorem cJ (off : BitVec 12) : Statement (.cJ off) := of_quadrant rfl rfl (by decide)

theorem cBeqz (rs1p : PopIdx) (off : BitVec 9) : Statement (.cBeqz rs1p off) := of_quadrant rfl rfl (by decide)

theorem cBnez (rs1p : PopIdx) (off : BitVec 9) : Statement (.cBnez rs1p off) := of_quadrant rfl rfl (by decide)

theorem cSlli (rd : RegIdx) (shamt : BitVec 6) : Statement (.cSlli rd shamt) := of_quadrant rfl rfl (by decide)

theorem cLwsp (rd : RegIdx) (uimm : BitVec 8) : Statement (.cLwsp rd uimm) := of_quadrant rfl rfl (by decide)

theorem cLdsp (rd : RegIdx) (uimm : BitVec 9) : Statement (.cLdsp rd uimm) := of_quadrant rfl rfl (by decide)

theorem cJr (rs1 : RegIdx) : Statement (.cJr rs1) := of_quadrant rfl rfl (by decide)

theorem cMv (rd rs2 : RegIdx) : Statement (.cMv rd rs2) := of_quadrant rfl rfl (by decide)

theorem cEbreak : Statement .cEbreak := of_quadrant rfl (x := 0x2400#14) (q := 2#2) (by decide) (by decide)

theorem cJalr (rs1 : RegIdx) : Statement (.cJalr rs1) := of_quadrant rfl rfl (by decide)

theorem cAdd (rd rs2 : RegIdx) : Statement (.cAdd rd rs2) := of_quadrant rfl rfl (by decide)

theorem cSwsp (rs2 : RegIdx) (uimm : BitVec 8) : Statement (.cSwsp rs2 uimm) := of_quadrant rfl rfl (by decide)

theorem cSdsp (rs2 : RegIdx) (uimm : BitVec 9) : Statement (.cSdsp rs2 uimm) := of_quadrant rfl rfl (by decide)

theorem cFld (rdp rs1p : PopIdx) (hi : BitVec 3) (lo : BitVec 2) : Statement (.cFld rdp rs1p hi lo) :=
  of_quadrant rfl rfl (by decide)

theorem cFsd (rs1p rs2p : PopIdx) (hi : BitVec 3) (lo : BitVec 2) : Statement (.cFsd rs1p rs2p hi lo) :=
  of_quadrant rfl rfl (by decide)

theorem cFldsp (rd : RegIdx) (hi : BitVec 1) (lo : BitVec 5) : Statement (.cFldsp rd hi lo) :=
  of_quadrant rfl rfl (by decide)

theorem cFsdsp (rs2 : RegIdx) (hi : BitVec 6) : Statement (.cFsdsp rs2 hi) := of_quadrant rfl rfl (by decide)

end Sys2Proof.Laws.LowBits
end

