-- ==== Sys2Proof/Laws/Words.lean ====
section
/-! SUPPORT. Each field of a word put together by a format is the field that went in (30_encoding.md R61 to R79). -/

namespace Sys2Proof.Machine

/-! ## wordR -/

theorem opcode_wordR (f7 : BitVec 7) (rs2 rs1 : RegIdx) (f3 : BitVec 3) (rd : RegIdx) (op : BitVec 7) :
    opcode (wordR f7 rs2 rs1 f3 rd op) = op := by
  apply BitVec.eq_of_getLsbD_eq
  intro i hi
  simp only [opcode, wordR, BitVec.getLsbD_append, BitVec.getLsbD_extractLsb']
  interval_cases i <;> simp

theorem rdField_wordR (f7 : BitVec 7) (rs2 rs1 : RegIdx) (f3 : BitVec 3) (rd : RegIdx) (op : BitVec 7) :
    rdField (wordR f7 rs2 rs1 f3 rd op) = rd := by
  apply BitVec.eq_of_getLsbD_eq
  intro i hi
  simp only [rdField, wordR, BitVec.getLsbD_append, BitVec.getLsbD_extractLsb']
  interval_cases i <;> simp

theorem funct3_wordR (f7 : BitVec 7) (rs2 rs1 : RegIdx) (f3 : BitVec 3) (rd : RegIdx) (op : BitVec 7) :
    funct3 (wordR f7 rs2 rs1 f3 rd op) = f3 := by
  apply BitVec.eq_of_getLsbD_eq
  intro i hi
  simp only [funct3, wordR, BitVec.getLsbD_append, BitVec.getLsbD_extractLsb']
  interval_cases i <;> simp

theorem rs1Field_wordR (f7 : BitVec 7) (rs2 rs1 : RegIdx) (f3 : BitVec 3) (rd : RegIdx) (op : BitVec 7) :
    rs1Field (wordR f7 rs2 rs1 f3 rd op) = rs1 := by
  apply BitVec.eq_of_getLsbD_eq
  intro i hi
  simp only [rs1Field, wordR, BitVec.getLsbD_append, BitVec.getLsbD_extractLsb']
  interval_cases i <;> simp

theorem rs2Field_wordR (f7 : BitVec 7) (rs2 rs1 : RegIdx) (f3 : BitVec 3) (rd : RegIdx) (op : BitVec 7) :
    rs2Field (wordR f7 rs2 rs1 f3 rd op) = rs2 := by
  apply BitVec.eq_of_getLsbD_eq
  intro i hi
  simp only [rs2Field, wordR, BitVec.getLsbD_append, BitVec.getLsbD_extractLsb']
  interval_cases i <;> simp

theorem funct7_wordR (f7 : BitVec 7) (rs2 rs1 : RegIdx) (f3 : BitVec 3) (rd : RegIdx) (op : BitVec 7) :
    funct7 (wordR f7 rs2 rs1 f3 rd op) = f7 := by
  apply BitVec.eq_of_getLsbD_eq
  intro i hi
  simp only [funct7, wordR, BitVec.getLsbD_append, BitVec.getLsbD_extractLsb']
  interval_cases i <;> simp

/-! ## wordI -/

theorem opcode_wordI (imm : BitVec 12) (rs1 : RegIdx) (f3 : BitVec 3) (rd : RegIdx) (op : BitVec 7) :
    opcode (wordI imm rs1 f3 rd op) = op := by
  apply BitVec.eq_of_getLsbD_eq
  intro i hi
  simp only [opcode, wordI, BitVec.getLsbD_append, BitVec.getLsbD_extractLsb']
  interval_cases i <;> simp

theorem rdField_wordI (imm : BitVec 12) (rs1 : RegIdx) (f3 : BitVec 3) (rd : RegIdx) (op : BitVec 7) :
    rdField (wordI imm rs1 f3 rd op) = rd := by
  apply BitVec.eq_of_getLsbD_eq
  intro i hi
  simp only [rdField, wordI, BitVec.getLsbD_append, BitVec.getLsbD_extractLsb']
  interval_cases i <;> simp

theorem funct3_wordI (imm : BitVec 12) (rs1 : RegIdx) (f3 : BitVec 3) (rd : RegIdx) (op : BitVec 7) :
    funct3 (wordI imm rs1 f3 rd op) = f3 := by
  apply BitVec.eq_of_getLsbD_eq
  intro i hi
  simp only [funct3, wordI, BitVec.getLsbD_append, BitVec.getLsbD_extractLsb']
  interval_cases i <;> simp

theorem rs1Field_wordI (imm : BitVec 12) (rs1 : RegIdx) (f3 : BitVec 3) (rd : RegIdx) (op : BitVec 7) :
    rs1Field (wordI imm rs1 f3 rd op) = rs1 := by
  apply BitVec.eq_of_getLsbD_eq
  intro i hi
  simp only [rs1Field, wordI, BitVec.getLsbD_append, BitVec.getLsbD_extractLsb']
  interval_cases i <;> simp

theorem immI12_wordI (imm : BitVec 12) (rs1 : RegIdx) (f3 : BitVec 3) (rd : RegIdx) (op : BitVec 7) :
    immI12 (wordI imm rs1 f3 rd op) = imm := by
  apply BitVec.eq_of_getLsbD_eq
  intro i hi
  simp only [immI12, wordI, BitVec.getLsbD_append, BitVec.getLsbD_extractLsb']
  interval_cases i <;> simp

/-! ## wordS -/

theorem opcode_wordS (imm : BitVec 12) (rs2 rs1 : RegIdx) (f3 : BitVec 3) (op : BitVec 7) :
    opcode (wordS imm rs2 rs1 f3 op) = op := by
  apply BitVec.eq_of_getLsbD_eq
  intro i hi
  simp only [opcode, wordS, BitVec.getLsbD_append, BitVec.getLsbD_extractLsb']
  interval_cases i <;> simp

theorem funct3_wordS (imm : BitVec 12) (rs2 rs1 : RegIdx) (f3 : BitVec 3) (op : BitVec 7) :
    funct3 (wordS imm rs2 rs1 f3 op) = f3 := by
  apply BitVec.eq_of_getLsbD_eq
  intro i hi
  simp only [funct3, wordS, BitVec.getLsbD_append, BitVec.getLsbD_extractLsb']
  interval_cases i <;> simp

theorem rs1Field_wordS (imm : BitVec 12) (rs2 rs1 : RegIdx) (f3 : BitVec 3) (op : BitVec 7) :
    rs1Field (wordS imm rs2 rs1 f3 op) = rs1 := by
  apply BitVec.eq_of_getLsbD_eq
  intro i hi
  simp only [rs1Field, wordS, BitVec.getLsbD_append, BitVec.getLsbD_extractLsb']
  interval_cases i <;> simp

theorem rs2Field_wordS (imm : BitVec 12) (rs2 rs1 : RegIdx) (f3 : BitVec 3) (op : BitVec 7) :
    rs2Field (wordS imm rs2 rs1 f3 op) = rs2 := by
  apply BitVec.eq_of_getLsbD_eq
  intro i hi
  simp only [rs2Field, wordS, BitVec.getLsbD_append, BitVec.getLsbD_extractLsb']
  interval_cases i <;> simp

theorem immS12_wordS (imm : BitVec 12) (rs2 rs1 : RegIdx) (f3 : BitVec 3) (op : BitVec 7) :
    immS12 (wordS imm rs2 rs1 f3 op) = imm := by
  apply BitVec.eq_of_getLsbD_eq
  intro i hi
  simp only [immS12, wordS, BitVec.getLsbD_append, BitVec.getLsbD_extractLsb']
  interval_cases i <;> simp

/-! ## wordB -/

theorem opcode_wordB (imm : BitVec 13) (rs2 rs1 : RegIdx) (f3 : BitVec 3) (op : BitVec 7) :
    opcode (wordB imm rs2 rs1 f3 op) = op := by
  apply BitVec.eq_of_getLsbD_eq
  intro i hi
  simp only [opcode, wordB, BitVec.getLsbD_append, BitVec.getLsbD_extractLsb']
  interval_cases i <;> simp

theorem funct3_wordB (imm : BitVec 13) (rs2 rs1 : RegIdx) (f3 : BitVec 3) (op : BitVec 7) :
    funct3 (wordB imm rs2 rs1 f3 op) = f3 := by
  apply BitVec.eq_of_getLsbD_eq
  intro i hi
  simp only [funct3, wordB, BitVec.getLsbD_append, BitVec.getLsbD_extractLsb']
  interval_cases i <;> simp

theorem rs1Field_wordB (imm : BitVec 13) (rs2 rs1 : RegIdx) (f3 : BitVec 3) (op : BitVec 7) :
    rs1Field (wordB imm rs2 rs1 f3 op) = rs1 := by
  apply BitVec.eq_of_getLsbD_eq
  intro i hi
  simp only [rs1Field, wordB, BitVec.getLsbD_append, BitVec.getLsbD_extractLsb']
  interval_cases i <;> simp

theorem rs2Field_wordB (imm : BitVec 13) (rs2 rs1 : RegIdx) (f3 : BitVec 3) (op : BitVec 7) :
    rs2Field (wordB imm rs2 rs1 f3 op) = rs2 := by
  apply BitVec.eq_of_getLsbD_eq
  intro i hi
  simp only [rs2Field, wordB, BitVec.getLsbD_append, BitVec.getLsbD_extractLsb']
  interval_cases i <;> simp

theorem immB13_wordB (imm : BitVec 13) (rs2 rs1 : RegIdx) (f3 : BitVec 3) (op : BitVec 7)
    (h : imm[0] = false) : immB13 (wordB imm rs2 rs1 f3 op) = imm := by
  apply BitVec.eq_of_getLsbD_eq
  intro i hi
  simp only [immB13, wordB, BitVec.getLsbD_append, BitVec.getLsbD_extractLsb']
  interval_cases i <;> simp [h]

/-! ## wordU -/

theorem opcode_wordU (imm : BitVec 20) (rd : RegIdx) (op : BitVec 7) :
    opcode (wordU imm rd op) = op := by
  apply BitVec.eq_of_getLsbD_eq
  intro i hi
  simp only [opcode, wordU, BitVec.getLsbD_append, BitVec.getLsbD_extractLsb']
  interval_cases i <;> simp

theorem rdField_wordU (imm : BitVec 20) (rd : RegIdx) (op : BitVec 7) :
    rdField (wordU imm rd op) = rd := by
  apply BitVec.eq_of_getLsbD_eq
  intro i hi
  simp only [rdField, wordU, BitVec.getLsbD_append, BitVec.getLsbD_extractLsb']
  interval_cases i <;> simp

theorem immU20_wordU (imm : BitVec 20) (rd : RegIdx) (op : BitVec 7) :
    immU20 (wordU imm rd op) = imm := by
  apply BitVec.eq_of_getLsbD_eq
  intro i hi
  simp only [immU20, wordU, BitVec.getLsbD_append, BitVec.getLsbD_extractLsb']
  interval_cases i <;> simp

/-! ## wordJ -/

theorem opcode_wordJ (imm : BitVec 21) (rd : RegIdx) (op : BitVec 7) :
    opcode (wordJ imm rd op) = op := by
  apply BitVec.eq_of_getLsbD_eq
  intro i hi
  simp only [opcode, wordJ, BitVec.getLsbD_append, BitVec.getLsbD_extractLsb']
  interval_cases i <;> simp

theorem rdField_wordJ (imm : BitVec 21) (rd : RegIdx) (op : BitVec 7) :
    rdField (wordJ imm rd op) = rd := by
  apply BitVec.eq_of_getLsbD_eq
  intro i hi
  simp only [rdField, wordJ, BitVec.getLsbD_append, BitVec.getLsbD_extractLsb']
  interval_cases i <;> simp

theorem immJ21_wordJ (imm : BitVec 21) (rd : RegIdx) (op : BitVec 7)
    (h : imm[0] = false) : immJ21 (wordJ imm rd op) = imm := by
  apply BitVec.eq_of_getLsbD_eq
  intro i hi
  simp only [immJ21, wordJ, BitVec.getLsbD_append, BitVec.getLsbD_extractLsb']
  interval_cases i <;> simp [h]

/-! ## wordShift64 -/

theorem opcode_wordShift64 (f6 shamt : BitVec 6) (rs1 : RegIdx) (f3 : BitVec 3) (rd : RegIdx) :
    opcode (wordShift64 f6 shamt rs1 f3 rd) = 0b0010011#7 := by
  apply BitVec.eq_of_getLsbD_eq
  intro i hi
  simp only [opcode, wordShift64, BitVec.getLsbD_append, BitVec.getLsbD_extractLsb']
  interval_cases i <;> simp

theorem rdField_wordShift64 (f6 shamt : BitVec 6) (rs1 : RegIdx) (f3 : BitVec 3) (rd : RegIdx) :
    rdField (wordShift64 f6 shamt rs1 f3 rd) = rd := by
  apply BitVec.eq_of_getLsbD_eq
  intro i hi
  simp only [rdField, wordShift64, BitVec.getLsbD_append, BitVec.getLsbD_extractLsb']
  interval_cases i <;> simp

theorem funct3_wordShift64 (f6 shamt : BitVec 6) (rs1 : RegIdx) (f3 : BitVec 3) (rd : RegIdx) :
    funct3 (wordShift64 f6 shamt rs1 f3 rd) = f3 := by
  apply BitVec.eq_of_getLsbD_eq
  intro i hi
  simp only [funct3, wordShift64, BitVec.getLsbD_append, BitVec.getLsbD_extractLsb']
  interval_cases i <;> simp

theorem rs1Field_wordShift64 (f6 shamt : BitVec 6) (rs1 : RegIdx) (f3 : BitVec 3) (rd : RegIdx) :
    rs1Field (wordShift64 f6 shamt rs1 f3 rd) = rs1 := by
  apply BitVec.eq_of_getLsbD_eq
  intro i hi
  simp only [rs1Field, wordShift64, BitVec.getLsbD_append, BitVec.getLsbD_extractLsb']
  interval_cases i <;> simp

theorem shamt6_wordShift64 (f6 shamt : BitVec 6) (rs1 : RegIdx) (f3 : BitVec 3) (rd : RegIdx) :
    shamt6 (wordShift64 f6 shamt rs1 f3 rd) = shamt := by
  apply BitVec.eq_of_getLsbD_eq
  intro i hi
  simp only [shamt6, wordShift64, BitVec.getLsbD_append, BitVec.getLsbD_extractLsb']
  interval_cases i <;> simp

theorem funct6_wordShift64 (f6 shamt : BitVec 6) (rs1 : RegIdx) (f3 : BitVec 3) (rd : RegIdx) :
    funct6 (wordShift64 f6 shamt rs1 f3 rd) = f6 := by
  apply BitVec.eq_of_getLsbD_eq
  intro i hi
  simp only [funct6, wordShift64, BitVec.getLsbD_append, BitVec.getLsbD_extractLsb']
  interval_cases i <;> simp

/-! ## wordShift32 -/

theorem opcode_wordShift32 (f7 : BitVec 7) (shamt : BitVec 5) (rs1 : RegIdx) (f3 : BitVec 3) (rd : RegIdx) :
    opcode (wordShift32 f7 shamt rs1 f3 rd) = 0b0011011#7 := by
  apply BitVec.eq_of_getLsbD_eq
  intro i hi
  simp only [opcode, wordShift32, BitVec.getLsbD_append, BitVec.getLsbD_extractLsb']
  interval_cases i <;> simp

theorem rdField_wordShift32 (f7 : BitVec 7) (shamt : BitVec 5) (rs1 : RegIdx) (f3 : BitVec 3) (rd : RegIdx) :
    rdField (wordShift32 f7 shamt rs1 f3 rd) = rd := by
  apply BitVec.eq_of_getLsbD_eq
  intro i hi
  simp only [rdField, wordShift32, BitVec.getLsbD_append, BitVec.getLsbD_extractLsb']
  interval_cases i <;> simp

theorem funct3_wordShift32 (f7 : BitVec 7) (shamt : BitVec 5) (rs1 : RegIdx) (f3 : BitVec 3) (rd : RegIdx) :
    funct3 (wordShift32 f7 shamt rs1 f3 rd) = f3 := by
  apply BitVec.eq_of_getLsbD_eq
  intro i hi
  simp only [funct3, wordShift32, BitVec.getLsbD_append, BitVec.getLsbD_extractLsb']
  interval_cases i <;> simp

theorem rs1Field_wordShift32 (f7 : BitVec 7) (shamt : BitVec 5) (rs1 : RegIdx) (f3 : BitVec 3) (rd : RegIdx) :
    rs1Field (wordShift32 f7 shamt rs1 f3 rd) = rs1 := by
  apply BitVec.eq_of_getLsbD_eq
  intro i hi
  simp only [rs1Field, wordShift32, BitVec.getLsbD_append, BitVec.getLsbD_extractLsb']
  interval_cases i <;> simp

theorem shamt5_wordShift32 (f7 : BitVec 7) (shamt : BitVec 5) (rs1 : RegIdx) (f3 : BitVec 3) (rd : RegIdx) :
    shamt5 (wordShift32 f7 shamt rs1 f3 rd) = shamt := by
  apply BitVec.eq_of_getLsbD_eq
  intro i hi
  simp only [shamt5, wordShift32, BitVec.getLsbD_append, BitVec.getLsbD_extractLsb']
  interval_cases i <;> simp

theorem funct7_wordShift32 (f7 : BitVec 7) (shamt : BitVec 5) (rs1 : RegIdx) (f3 : BitVec 3) (rd : RegIdx) :
    funct7 (wordShift32 f7 shamt rs1 f3 rd) = f7 := by
  apply BitVec.eq_of_getLsbD_eq
  intro i hi
  simp only [funct7, wordShift32, BitVec.getLsbD_append, BitVec.getLsbD_extractLsb']
  interval_cases i <;> simp

/-! ## wordFence -/

theorem opcode_wordFence (fm pred succ : BitVec 4) (rs1 rd : RegIdx) :
    opcode (wordFence fm pred succ rs1 rd) = 0b0001111#7 := by
  apply BitVec.eq_of_getLsbD_eq
  intro i hi
  simp only [opcode, wordFence, BitVec.getLsbD_append, BitVec.getLsbD_extractLsb']
  interval_cases i <;> simp

theorem funct3_wordFence (fm pred succ : BitVec 4) (rs1 rd : RegIdx) :
    funct3 (wordFence fm pred succ rs1 rd) = 0#3 := by
  apply BitVec.eq_of_getLsbD_eq
  intro i hi
  simp only [funct3, wordFence, BitVec.getLsbD_append, BitVec.getLsbD_extractLsb']
  interval_cases i <;> simp

theorem rdField_wordFence (fm pred succ : BitVec 4) (rs1 rd : RegIdx) :
    rdField (wordFence fm pred succ rs1 rd) = rd := by
  apply BitVec.eq_of_getLsbD_eq
  intro i hi
  simp only [rdField, wordFence, BitVec.getLsbD_append, BitVec.getLsbD_extractLsb']
  interval_cases i <;> simp

theorem rs1Field_wordFence (fm pred succ : BitVec 4) (rs1 rd : RegIdx) :
    rs1Field (wordFence fm pred succ rs1 rd) = rs1 := by
  apply BitVec.eq_of_getLsbD_eq
  intro i hi
  simp only [rs1Field, wordFence, BitVec.getLsbD_append, BitVec.getLsbD_extractLsb']
  interval_cases i <;> simp

theorem fmField_wordFence (fm pred succ : BitVec 4) (rs1 rd : RegIdx) :
    fmField (wordFence fm pred succ rs1 rd) = fm := by
  apply BitVec.eq_of_getLsbD_eq
  intro i hi
  simp only [fmField, wordFence, BitVec.getLsbD_append, BitVec.getLsbD_extractLsb']
  interval_cases i <;> simp

theorem predField_wordFence (fm pred succ : BitVec 4) (rs1 rd : RegIdx) :
    predField (wordFence fm pred succ rs1 rd) = pred := by
  apply BitVec.eq_of_getLsbD_eq
  intro i hi
  simp only [predField, wordFence, BitVec.getLsbD_append, BitVec.getLsbD_extractLsb']
  interval_cases i <;> simp

theorem succField_wordFence (fm pred succ : BitVec 4) (rs1 rd : RegIdx) :
    succField (wordFence fm pred succ rs1 rd) = succ := by
  apply BitVec.eq_of_getLsbD_eq
  intro i hi
  simp only [succField, wordFence, BitVec.getLsbD_append, BitVec.getLsbD_extractLsb']
  interval_cases i <;> simp

end Sys2Proof.Machine
end

