-- ==== Sys2Proof/Tests/Slice0.lean ====
section
/-! SUPPORT. Tests with results from the spec's own examples and tables, and for every statement with hypotheses a witness that
meets them, at boundary values. -/

namespace Sys2Proof.Tests

open Sys2Proof Sys2Proof.Machine

/-! ## Well-formedness refuses each kind of ill-formed term -/

theorem test_wf_refuses_odd_offsets :
    (Instr.jal 0 1).wf = false ∧ (Instr.beq 1 2 1).wf = false ∧ (Instr.bne 1 2 3).wf = false ∧
    (Instr.blt 1 2 1).wf = false ∧ (Instr.bge 1 2 1).wf = false ∧ (Instr.bltu 1 2 1).wf = false ∧
    (Instr.bgeu 1 2 1).wf = false ∧ (Instr.cJ 1).wf = false ∧ (Instr.cBeqz 0 1).wf = false ∧
    (Instr.cBnez 0 1).wf = false := by decide

theorem test_wf_refuses_unscaled_offsets :
    (Instr.cAddi4spn 0 6).wf = false ∧ (Instr.cLw 0 0 2).wf = false ∧ (Instr.cLd 0 0 4).wf = false ∧
    (Instr.cSw 0 0 2).wf = false ∧ (Instr.cSd 0 0 4).wf = false ∧ (Instr.cAddi16sp 8).wf = false ∧
    (Instr.cLwsp 1 2).wf = false ∧ (Instr.cLdsp 1 4).wf = false ∧ (Instr.cSwsp 1 2).wf = false ∧
    (Instr.cSdsp 1 4).wf = false := by decide

theorem test_wf_refuses_zero_immediates :
    (Instr.cAddi4spn 0 0).wf = false ∧ (Instr.cAddi 1 0).wf = false ∧ (Instr.cAddi16sp 0).wf = false ∧
    (Instr.cLui 1 0).wf = false ∧ (Instr.cSrli 0 0).wf = false ∧ (Instr.cSrai 0 0).wf = false ∧
    (Instr.cSlli 1 0).wf = false := by decide

theorem test_wf_refuses_registers :
    (Instr.cAddi 0 1).wf = false ∧ (Instr.cAddiw 0 1).wf = false ∧ (Instr.cLi 0 1).wf = false ∧
    (Instr.cLui 0 1).wf = false ∧ (Instr.cLui 2 1).wf = false ∧ (Instr.cSlli 0 1).wf = false ∧
    (Instr.cLwsp 0 4).wf = false ∧ (Instr.cLdsp 0 8).wf = false ∧ (Instr.cJr 0).wf = false ∧
    (Instr.cMv 0 1).wf = false ∧ (Instr.cMv 1 0).wf = false ∧ (Instr.cJalr 0).wf = false ∧
    (Instr.cAdd 0 1).wf = false ∧ (Instr.cAdd 1 0).wf = false := by decide

/-! ## Decoding: each constructor from a word the spec writes out (the examples of R150 to R342) -/

/-- (R122, R150 to R159). -/
theorem test_decode_upper_jump_branch :
    decodeInstr 0x00000000#32 = .ok (.illegal) ∧
    decodeInstr 0x123452B7#32 = .ok (.lui 5 0x12345) ∧
    decodeInstr 0xFFFFF517#32 = .ok (.auipc 10 0xFFFFF) ∧
    decodeInstr 0x001000EF#32 = .ok (.jal 1 2048) ∧
    decodeInstr 0xFFC08067#32 = .ok (.jalr 0 1 0xFFC) ∧
    decodeInstr 0xFEB50CE3#32 = .ok (.beq 10 11 0x1FF8) ∧
    decodeInstr 0x00029863#32 = .ok (.bne 5 0 16) ∧
    decodeInstr 0x8020C063#32 = .ok (.blt 1 2 0x1000) ∧
    decodeInstr 0x7E735FE3#32 = .ok (.bge 6 7 4094) ∧
    decodeInstr 0x02D66063#32 = .ok (.bltu 12 13 32) ∧
    decodeInstr 0xFEF77FE3#32 = .ok (.bgeu 14 15 0x1FFE) := by decide

/-- (R170 to R180). -/
theorem test_decode_load_store :
    decodeInstr 0xFFF10283#32 = .ok (.lb 5 2 0xFFF) ∧
    decodeInstr 0x00251583#32 = .ok (.lh 11 10 2) ∧
    decodeInstr 0x80042483#32 = .ok (.lw 9 8 0x800) ∧
    decodeInstr 0x0005B503#32 = .ok (.ld 10 11 0) ∧
    decodeInstr 0x7FF1C203#32 = .ok (.lbu 4 3 2047) ∧
    decodeInstr 0x000FDF03#32 = .ok (.lhu 30 31 0) ∧
    decodeInstr 0x06466683#32 = .ok (.lwu 13 12 100) ∧
    decodeInstr 0xFE510FA3#32 = .ok (.sb 2 5 0xFFF) ∧
    decodeInstr 0x00B51323#32 = .ok (.sh 10 11 6) ∧
    decodeInstr 0x80942023#32 = .ok (.sw 8 9 0x800) ∧
    decodeInstr 0x7E113FA3#32 = .ok (.sd 2 1 2047) := by decide

/-- (R190 to R198). -/
theorem test_decode_int_imm :
    decodeInstr 0xFFF50513#32 = .ok (.addi 10 10 0xFFF) ∧
    decodeInstr 0xFFB32393#32 = .ok (.slti 7 6 0xFFB) ∧
    decodeInstr 0x0015B513#32 = .ok (.sltiu 10 11 1) ∧
    decodeInstr 0xFFF64613#32 = .ok (.xori 12 12 0xFFF) ∧
    decodeInstr 0x7FF0E113#32 = .ok (.ori 2 1 2047) ∧
    decodeInstr 0x0FF57513#32 = .ok (.andi 10 10 255) ∧
    decodeInstr 0x03F29293#32 = .ok (.slli 5 5 63) ∧
    decodeInstr 0x02035313#32 = .ok (.srli 6 6 32) ∧
    decodeInstr 0x4013D393#32 = .ok (.srai 7 7 1) := by decide

/-- (R210 to R219). -/
theorem test_decode_int_reg :
    decodeInstr 0x00C58533#32 = .ok (.add 10 11 12) ∧
    decodeInstr 0x40C58533#32 = .ok (.sub 10 11 12) ∧
    decodeInstr 0x00C59533#32 = .ok (.sll 10 11 12) ∧
    decodeInstr 0x00C5A533#32 = .ok (.slt 10 11 12) ∧
    decodeInstr 0x00C5B533#32 = .ok (.sltu 10 11 12) ∧
    decodeInstr 0x00C5C533#32 = .ok (.xor 10 11 12) ∧
    decodeInstr 0x00C5D533#32 = .ok (.srl 10 11 12) ∧
    decodeInstr 0x40C5D533#32 = .ok (.sra 10 11 12) ∧
    decodeInstr 0x00C5E533#32 = .ok (.or 10 11 12) ∧
    decodeInstr 0x00C5F533#32 = .ok (.and 10 11 12) := by decide

/-- (R220 to R227). -/
theorem test_decode_mul_div :
    decodeInstr 0x02C58533#32 = .ok (.mul 10 11 12) ∧
    decodeInstr 0x02C59533#32 = .ok (.mulh 10 11 12) ∧
    decodeInstr 0x02C5A533#32 = .ok (.mulhsu 10 11 12) ∧
    decodeInstr 0x02C5B533#32 = .ok (.mulhu 10 11 12) ∧
    decodeInstr 0x02C5C533#32 = .ok (.div 10 11 12) ∧
    decodeInstr 0x02C5D533#32 = .ok (.divu 10 11 12) ∧
    decodeInstr 0x02C5E533#32 = .ok (.rem 10 11 12) ∧
    decodeInstr 0x02C5F533#32 = .ok (.remu 10 11 12) := by decide

/-- (R240 to R253). -/
theorem test_decode_word_ops :
    decodeInstr 0x0005051B#32 = .ok (.addiw 10 10 0) ∧
    decodeInstr 0x01F5151B#32 = .ok (.slliw 10 10 31) ∧
    decodeInstr 0x0015559B#32 = .ok (.srliw 11 10 1) ∧
    decodeInstr 0x41F5551B#32 = .ok (.sraiw 10 10 31) ∧
    decodeInstr 0x00C5853B#32 = .ok (.addw 10 11 12) ∧
    decodeInstr 0x40C5853B#32 = .ok (.subw 10 11 12) ∧
    decodeInstr 0x00C5953B#32 = .ok (.sllw 10 11 12) ∧
    decodeInstr 0x00C5D53B#32 = .ok (.srlw 10 11 12) ∧
    decodeInstr 0x40C5D53B#32 = .ok (.sraw 10 11 12) ∧
    decodeInstr 0x02C5853B#32 = .ok (.mulw 10 11 12) ∧
    decodeInstr 0x02C5C53B#32 = .ok (.divw 10 11 12) ∧
    decodeInstr 0x02C5D53B#32 = .ok (.divuw 10 11 12) ∧
    decodeInstr 0x02C5E53B#32 = .ok (.remw 10 11 12) ∧
    decodeInstr 0x02C5F53B#32 = .ok (.remuw 10 11 12) := by decide

/-- (R260 to R269). -/
theorem test_decode_fence_system_csr :
    decodeInstr 0x8330000F#32 = .ok (.fence 0 0 8 3 3) ∧
    decodeInstr 0x1232930F#32 = .ok (.fenceI 6 5 0x123) ∧
    decodeInstr 0x00000073#32 = .ok (.ecall) ∧
    decodeInstr 0x00100073#32 = .ok (.ebreak) ∧
    decodeInstr 0x34029373#32 = .ok (.csrrw 6 5 0x340) ∧
    decodeInstr 0xC0002573#32 = .ok (.csrrs 10 0 0xC00) ∧
    decodeInstr 0x30043073#32 = .ok (.csrrc 0 8 0x300) ∧
    decodeInstr 0x0012D073#32 = .ok (.csrrwi 0 5 0x001) ∧
    decodeInstr 0x30046073#32 = .ok (.csrrsi 0 8 0x300) ∧
    decodeInstr 0xFFFFF0F3#32 = .ok (.csrrci 1 31 0xFFF) := by decide

/-- (R310 to R314, R307). -/
theorem test_decode_compressed_q0 :
    decodeInstr 0x00001FE0#32 = .ok (.cAddi4spn 0 1020) ∧
    decodeInstr 0x000043B0#32 = .ok (.cLw 4 7 64) ∧
    decodeInstr 0x000075E0#32 = .ok (.cLd 0 3 232) ∧
    decodeInstr 0x0000C3B0#32 = .ok (.cSw 7 4 64) ∧
    decodeInstr 0x0000F5E0#32 = .ok (.cSd 3 0 232) ∧
    decodeInstr 0x00002000#32 = .ok (.cFld 0 0 0 0) ∧
    decodeInstr 0x0000BC60#32 = .ok (.cFsd 0 0 7 3) := by decide

/-- (R315 to R332). -/
theorem test_decode_compressed_q1 :
    decodeInstr 0x00000001#32 = .ok (.cNop) ∧
    decodeInstr 0x00001081#32 = .ok (.cAddi 1 0x20) ∧
    decodeInstr 0x00002505#32 = .ok (.cAddiw 10 1) ∧
    decodeInstr 0x0000557D#32 = .ok (.cLi 10 0x3F) ∧
    decodeInstr 0x00007179#32 = .ok (.cAddi16sp 0x3D0) ∧
    decodeInstr 0x0000757D#32 = .ok (.cLui 10 0x3F) ∧
    decodeInstr 0x0000907D#32 = .ok (.cSrli 0 63) ∧
    decodeInstr 0x0000947D#32 = .ok (.cSrai 0 63) ∧
    decodeInstr 0x00009801#32 = .ok (.cAndi 0 0x20) ∧
    decodeInstr 0x00008D0D#32 = .ok (.cSub 2 3) ∧
    decodeInstr 0x00008D2D#32 = .ok (.cXor 2 3) ∧
    decodeInstr 0x00008D4D#32 = .ok (.cOr 2 3) ∧
    decodeInstr 0x00008D6D#32 = .ok (.cAnd 2 3) ∧
    decodeInstr 0x00009D0D#32 = .ok (.cSubw 2 3) ∧
    decodeInstr 0x00009D2D#32 = .ok (.cAddw 2 3) ∧
    decodeInstr 0x0000B001#32 = .ok (.cJ 0x800) ∧
    decodeInstr 0x0000CC7D#32 = .ok (.cBeqz 0 254) ∧
    decodeInstr 0x0000F001#32 = .ok (.cBnez 0 0x100) := by decide

/-- (R333 to R342, R307). -/
theorem test_decode_compressed_q2 :
    decodeInstr 0x000010FE#32 = .ok (.cSlli 1 63) ∧
    decodeInstr 0x000050FE#32 = .ok (.cLwsp 1 252) ∧
    decodeInstr 0x000070FE#32 = .ok (.cLdsp 1 504) ∧
    decodeInstr 0x00008082#32 = .ok (.cJr 1) ∧
    decodeInstr 0x0000852E#32 = .ok (.cMv 10 11) ∧
    decodeInstr 0x00009002#32 = .ok (.cEbreak) ∧
    decodeInstr 0x00009502#32 = .ok (.cJalr 10) ∧
    decodeInstr 0x0000952E#32 = .ok (.cAdd 10 11) ∧
    decodeInstr 0x0000C02A#32 = .ok (.cSwsp 10 0) ∧
    decodeInstr 0x0000FF82#32 = .ok (.cSdsp 0 504) ∧
    decodeInstr 0x00002002#32 = .ok (.cFldsp 0 0 0) ∧
    decodeInstr 0x0000A002#32 = .ok (.cFsdsp 0 0) := by decide

/-- Reserved, HINT and unsupported words are refused by the block's error kinds (R354, R361). -/
theorem test_decode_refuses :
    decodeInstr 0x00000004#32 = .error .illegal ∧ decodeInstr 0x00008000#32 = .error .illegal ∧
    decodeInstr 0x00000005#32 = .error .unimplemented ∧ decodeInstr 0x00006101#32 = .error .illegal ∧
    decodeInstr 0x00009D4D#32 = .error .illegal ∧ decodeInstr 0x0000802E#32 = .error .unimplemented ∧
    decodeInstr 0xFFFFFFFF#32 = .error .illegal ∧ decodeInstr 0x0000006B#32 = .error .illegal ∧
    decodeInstr 0x0205151B#32 = .error .illegal ∧ decodeInstr 0x30200073#32 = .error .unimplemented := by decide

/-- A compressed instruction takes two bytes and leaves the rest; a standard one needs four (R41, R42). -/
theorem test_decode_bytes :
    decodeBytes [0x82, 0x80, 0xAA] = .ok (.cJr 1, [0xAA]) ∧
    decodeBytes [0x03, 0xB5, 0x05, 0x00, 0x01] = .ok (.ld 10 11 0, [0x01]) ∧
    decodeBytes [0x03, 0xB5, 0x05] = .error .truncated ∧ decodeBytes [0x82] = .error .truncated ∧
    decodeBytes [0x05, 0x00] = .error (.undecodable .unimplemented) := by decide

/-! ## One step on a small state -/

/-- The reset state with some registers set. -/
def withRegs (l : List (RegIdx × Word)) : State := l.foldl (fun s p => s.setReg p.1 p.2) State.reset

/-- One step that runs the given word. -/
def run (s : State) (w : Nat) : Option State :=
  match step (s.withFetchWord 32 w) with
  | .next t => some t
  | _ => none

def regAfter (s : State) (w : Nat) (r : RegIdx) : Option Word := (run s w).map (fun t => t.reg r)
def pcAfter (s : State) (w : Nat) : Option Word := (run s w).map State.pc

/-- Cause, mtval and mepc after a trap. -/
def trapAfter (s : State) (w : Nat) : Option (Word × Word × Word) := (run s w).map (fun t => (t.mcause, t.mtval, t.mepc))

/-- Cause and mepc after a trap whose mtval is free. -/
def causeAfter (s : State) (w : Nat) : Option (Word × Word) := (run s w).map (fun t => (t.mcause, t.mepc))

/-- A state with bytes 0x81 to 0x88 from address 0x1000 on, and x2, x10 and x11 pointing there. -/
def withBytes : State :=
  { withRegs [(2, 0x1000), (3, 0x1000), (10, 0x1000), (11, 0x1000), (12, 0x1000), (31, 0x1000)] with
    mem := Memory.write [] 0x1000 8 0x8887868584838281#64 }

/-- R150. -/
theorem test_lui_sign_extends :
    regAfter State.reset 0x80000537 10 = some 0xFFFFFFFF80000000 := by decide

/-- R151, whose example adds -4096. -/
theorem test_auipc_adds_to_pc :
    regAfter State.reset 0xFFFFF517 10 = some 0x7FFFF000 := by decide

/-- R152. -/
theorem test_jal_links_and_jumps :
    regAfter State.reset 0x001000EF 1 = some 0x80000004 ∧ pcAfter State.reset 0x001000EF = some 0x80000800 := by decide

/-- R153: rd = rs1, bit 0 cleared. -/
theorem test_jalr_reads_target_first :
    regAfter (withRegs [(1, 0x2001)]) 0x000080E7 1 = some 0x80000004 ∧
    pcAfter (withRegs [(1, 0x2001)]) 0x000080E7 = some 0x2000 := by decide

/-- R154. -/
theorem test_beq :
    pcAfter (withRegs [(10, 7), (11, 7)]) 0xFEB50CE3 = some 0x7FFFFFF8 ∧
    pcAfter (withRegs [(10, 7)]) 0xFEB50CE3 = some 0x80000004 := by decide

/-- R155. -/
theorem test_bne :
    pcAfter (withRegs [(5, 1)]) 0x00029863 = some 0x80000010 ∧ pcAfter State.reset 0x00029863 = some 0x80000004 := by decide

/-- R156. -/
theorem test_blt_is_signed :
    pcAfter (withRegs [(1, 0xFFFFFFFFFFFFFFFF)]) 0x8020C063 = some 0x7FFFF000 := by decide

/-- R157. -/
theorem test_bge_takes_equal :
    pcAfter State.reset 0x7E735FE3 = some 0x80000FFE := by decide

/-- R158. -/
theorem test_bltu_is_unsigned :
    pcAfter (withRegs [(12, 0xFFFFFFFFFFFFFFFF)]) 0x02D66063 = some 0x80000004 := by decide

/-- R159. -/
theorem test_bgeu_is_unsigned :
    pcAfter (withRegs [(14, 0xFFFFFFFFFFFFFFFF)]) 0xFEF77FE3 = some 0x7FFFFFFE := by decide

/-- R181. -/
theorem test_lb_lh_lw_sign_extend :
    regAfter withBytes 0x00050283 5 = some 0xFFFFFFFFFFFFFF81 ∧
    regAfter withBytes 0x00251583 11 = some 0xFFFFFFFFFFFF8483 ∧
    regAfter withBytes 0x00052483 9 = some 0xFFFFFFFF84838281 := by decide

/-- R181. -/
theorem test_lbu_lhu_lwu_zero_extend :
    regAfter withBytes 0x0001C203 4 = some 0x81 ∧ regAfter withBytes 0x000FDF03 30 = some 0x8281 ∧
    regAfter withBytes 0x00466683 13 = some 0x88878685 := by decide

/-- R173, R41. -/
theorem test_ld_is_little_endian :
    regAfter withBytes 0x0005B503 10 = some 0x8887868584838281 := by decide

/-- R181, R183. -/
theorem test_sb_sh_leave_the_rest :
    (run { withBytes with regs := (withBytes.setReg 5 0xFFFFFFFFFFFFFF00).regs } 0x00510023).map (fun t => t.mem.bytes8 0x1000)
      = some 0x8887868584838200 ∧
    (run withBytes 0x00B51323).map (fun t => t.mem.bytes8 0x1000) = some 0x1000868584838281 := by decide

/-- R181, R183, the offsets of R179 and R180. -/
theorem test_sw_sd :
    (run (withRegs [(8, 0x1800), (9, 0x1122334455667788)]) 0x80942023).map (fun t => t.mem.bytes8 0x1000) = some 0x55667788 ∧
    (run (withRegs [(2, 0x1001), (1, 0x1122334455667788)]) 0x7E113FA3).map (fun t => t.mem.bytes8 0x1800)
      = some 0x1122334455667788 := by decide

/-- R181, R382 codes 4 and 6. -/
theorem test_misaligned_trap_policy :
    causeAfter { withBytes with params := { withBytes.params with misaligned := .trap } } 0x00151583 = some (4, 0x80000000) ∧
    causeAfter { withBytes with params := { withBytes.params with misaligned := .trap } } 0x00B510A3 = some (6, 0x80000000) := by decide

/-- R24. -/
theorem test_x0_discards :
    regAfter State.reset 0x00500013 0 = some 0 := by decide

/-- R190. -/
theorem test_addi_wraps :
    regAfter State.reset 0xFFF50513 10 = some 0xFFFFFFFFFFFFFFFF := by decide

/-- R191, R192. -/
theorem test_slti_signed_sltiu_unsigned :
    regAfter (withRegs [(6, 0xFFFFFFFFFFFFFFFA)]) 0xFFB32393 7 = some 1 ∧ regAfter State.reset 0xFFB32393 7 = some 0 ∧
    regAfter State.reset 0x0015B513 10 = some 1 ∧ regAfter State.reset 0xFFF5B513 10 = some 1 := by decide

/-- R193 to R195. -/
theorem test_xori_ori_andi :
    regAfter (withRegs [(12, 5)]) 0xFFF64613 12 = some 0xFFFFFFFFFFFFFFFA ∧ regAfter (withRegs [(1, 0x800)]) 0x7FF0E113 2 = some 0xFFF ∧
    regAfter (withRegs [(10, 0x1234)]) 0x0FF57513 10 = some 0x34 := by decide

/-- R196 to R198. -/
theorem test_immediate_shifts :
    regAfter (withRegs [(5, 3)]) 0x03F29293 5 = some 0x8000000000000000 ∧
    regAfter (withRegs [(6, 0x8000000000000000)]) 0x02035313 6 = some 0x80000000 ∧
    regAfter (withRegs [(7, 0x8000000000000000)]) 0x4013D393 7 = some 0xC000000000000000 := by decide

/-- R210, R211. -/
theorem test_add_sub_wrap :
    regAfter (withRegs [(11, 0xFFFFFFFFFFFFFFFF), (12, 2)]) 0x00C58533 10 = some 1 ∧
    regAfter (withRegs [(12, 1)]) 0x40C58533 10 = some 0xFFFFFFFFFFFFFFFF := by decide

/-- R212, R216, R217. -/
theorem test_shifts_use_six_bits :
    regAfter (withRegs [(11, 5), (12, 65)]) 0x00C59533 10 = some 10 ∧
    regAfter (withRegs [(11, 0x8000000000000000), (12, 127)]) 0x00C5D533 10 = some 1 ∧
    regAfter (withRegs [(11, 0x8000000000000000), (12, 127)]) 0x40C5D533 10 = some 0xFFFFFFFFFFFFFFFF := by decide

/-- R213, R214. -/
theorem test_slt_sltu :
    regAfter (withRegs [(11, 0xFFFFFFFFFFFFFFFF)]) 0x00C5A533 10 = some 1 ∧ regAfter (withRegs [(11, 0xFFFFFFFFFFFFFFFF)]) 0x00C5B533 10 = some 0 := by decide

/-- R215, R218, R219. -/
theorem test_xor_or_and :
    regAfter (withRegs [(11, 0xC), (12, 0xA)]) 0x00C5C533 10 = some 6 ∧ regAfter (withRegs [(11, 0xC), (12, 0xA)]) 0x00C5E533 10 = some 0xE ∧
    regAfter (withRegs [(11, 0xC), (12, 0xA)]) 0x00C5F533 10 = some 8 := by decide

/-- R220 to R223: -1 times -1 in each reading. -/
theorem test_multiply_halves :
    regAfter (withRegs [(11, 0xFFFFFFFFFFFFFFFF), (12, 0xFFFFFFFFFFFFFFFF)]) 0x02C58533 10 = some 1 ∧
    regAfter (withRegs [(11, 0xFFFFFFFFFFFFFFFF), (12, 0xFFFFFFFFFFFFFFFF)]) 0x02C59533 10 = some 0 ∧
    regAfter (withRegs [(11, 0xFFFFFFFFFFFFFFFF), (12, 0xFFFFFFFFFFFFFFFF)]) 0x02C5A533 10 = some 0xFFFFFFFFFFFFFFFF ∧
    regAfter (withRegs [(11, 0xFFFFFFFFFFFFFFFF), (12, 0xFFFFFFFFFFFFFFFF)]) 0x02C5B533 10 = some 0xFFFFFFFFFFFFFFFE := by decide

/-- R228. -/
theorem test_divide_by_zero :
    regAfter (withRegs [(11, 7)]) 0x02C5C533 10 = some 0xFFFFFFFFFFFFFFFF ∧ regAfter (withRegs [(11, 7)]) 0x02C5D533 10 = some 0xFFFFFFFFFFFFFFFF ∧
    regAfter (withRegs [(11, 7)]) 0x02C5E533 10 = some 7 ∧ regAfter (withRegs [(11, 7)]) 0x02C5F533 10 = some 7 := by decide

/-- R228, R224, R226: -7 / 2 = -3, remainder -1. -/
theorem test_divide_overflow_and_sign :
    regAfter (withRegs [(11, 0x8000000000000000), (12, 0xFFFFFFFFFFFFFFFF)]) 0x02C5C533 10 = some 0x8000000000000000 ∧
    regAfter (withRegs [(11, 0x8000000000000000), (12, 0xFFFFFFFFFFFFFFFF)]) 0x02C5E533 10 = some 0 ∧
    regAfter (withRegs [(11, 0xFFFFFFFFFFFFFFF9), (12, 2)]) 0x02C5C533 10 = some 0xFFFFFFFFFFFFFFFD ∧
    regAfter (withRegs [(11, 0xFFFFFFFFFFFFFFF9), (12, 2)]) 0x02C5E533 10 = some 0xFFFFFFFFFFFFFFFF := by decide

/-- R240: sext.w. -/
theorem test_addiw_sign_extends :
    regAfter (withRegs [(10, 0x180000000)]) 0x0005051B 10 = some 0xFFFFFFFF80000000 := by decide

/-- R241 to R243. -/
theorem test_word_shifts :
    regAfter (withRegs [(10, 1)]) 0x01F5151B 10 = some 0xFFFFFFFF80000000 ∧ regAfter (withRegs [(10, 0xFFFFFFFF80000000)]) 0x0015559B 11 = some 0x40000000 ∧
    regAfter (withRegs [(10, 0x80000000)]) 0x41F5551B 10 = some 0xFFFFFFFFFFFFFFFF := by decide

/-- R244, R245, R249. -/
theorem test_word_adds :
    regAfter (withRegs [(11, 0x7FFFFFFF), (12, 1)]) 0x00C5853B 10 = some 0xFFFFFFFF80000000 ∧
    regAfter (withRegs [(12, 1)]) 0x40C5853B 10 = some 0xFFFFFFFFFFFFFFFF ∧ regAfter (withRegs [(11, 0x10000), (12, 0x8000)]) 0x02C5853B 10 = some 0xFFFFFFFF80000000 := by decide

/-- R246 to R248, R255. -/
theorem test_word_shifts_use_five_bits :
    regAfter (withRegs [(11, 1), (12, 33)]) 0x00C5953B 10 = some 2 ∧ regAfter (withRegs [(11, 0x80000000), (12, 63)]) 0x00C5D53B 10 = some 1 ∧
    regAfter (withRegs [(11, 0x80000000), (12, 63)]) 0x40C5D53B 10 = some 0xFFFFFFFFFFFFFFFF := by decide

/-- R250 to R253, R228 with L = 32. -/
theorem test_word_divisions :
    regAfter (withRegs [(11, 0x80000000), (12, 0xFFFFFFFF)]) 0x02C5C53B 10 = some 0xFFFFFFFF80000000 ∧
    regAfter (withRegs [(11, 7)]) 0x02C5D53B 10 = some 0xFFFFFFFFFFFFFFFF ∧ regAfter (withRegs [(11, 0x80000000), (12, 0xFFFFFFFF)]) 0x02C5E53B 10 = some 0 ∧
    regAfter (withRegs [(11, 0x80000000)]) 0x02C5F53B 10 = some 0xFFFFFFFF80000000 := by decide

/-- R260. -/
theorem test_fence_only_advances :
    (run State.reset 0x8330000F).map (fun t => (t.pc, t.mcause)) = some (0x80000004, 0) := by decide

/-- R53, R261. -/
theorem test_fence_i_drops_old_memories :
    (match execFenceI 0 0 0 { State.reset with oldMems := [[]] } with | .next t => some t.oldMems | _ => none) = some [] := by decide

/-- R53. -/
theorem test_store_keeps_old_memory :
    (run State.reset 0x00A52023).map (fun t => t.oldMems.length) = some 1 := by decide

/-- R382, R383, R386: codes 11, 9 and 8, into machine mode. -/
theorem test_ecall_by_mode :
    causeAfter State.reset 0x00000073 = some (11, 0x80000000) ∧ causeAfter { State.reset with mode := .supervisor } 0x00000073 = some (9, 0x80000000) ∧
    causeAfter { State.reset with mode := .user } 0x00000073 = some (8, 0x80000000) ∧
    (run { State.reset with mode := .user, mtvec := 0x1003 } 0x00000073).map (fun t => (t.mode, t.pc)) = some (.machine, 0x1000) := by decide

/-- R386: MPIE from MIE, MIE 0, MPP the old mode. -/
theorem test_trap_entry_status :
    (run { State.reset with mode := .supervisor, mstatus := 0x8 } 0x00100073).map (fun t => (t.mcause, t.mstatus)) = some (3, 0x880) := by decide

/-- R264, R273. -/
theorem test_csrrw_swaps :
    (run (withRegs [(5, 42)]) 0x34029373).map (fun t => (t.reg 6, t.readCsr 0x340)) = some (0, 42) := by decide

/-- R265, R266. -/
theorem test_csrrs_csrrc_bits :
    (run { withRegs [(8, 3)] with mstatus := 5 } 0x30042573).map (fun t => (t.reg 10, t.mstatus)) = some (5, 7) ∧
    (run { withRegs [(8, 3)] with mstatus := 5 } 0x30043073).map (fun t => (t.reg 0, t.mstatus)) = some (0, 4) := by decide

/-- R267 to R269. -/
theorem test_csr_immediates :
    (run State.reset 0x0012D073).map (fun t => t.readCsr 1) = some 5 ∧ (run { State.reset with mstatus := 1 } 0x30046073).map State.mstatus = some 9 ∧
    (run { State.reset with mstatus := 0xB } 0x30047073).map State.mstatus = some 3 := by decide

/-- R270: read-only, privilege, and a set of nothing that is no write. -/
theorem test_csr_rules :
    trapAfter State.reset 0xC0001073 = some (2, 0xC0001073, 0x80000000) ∧
    trapAfter { State.reset with mode := .user } 0x30002573 = some (2, 0x30002573, 0x80000000) ∧
    pcAfter { State.reset with mode := .user } 0xC0002573 = some 0x80000004 := by decide

/-- R122, R381: bits or 0. -/
theorem test_illegal_traps :
    trapAfter State.reset 0 = some (2, 0, 0x80000000) ∧ trapAfter State.reset 0x30200073 = some (2, 0x30200073, 0x80000000) ∧
    trapAfter State.reset 0x00002000 = some (2, 0x2000, 0x80000000) ∧ trapAfter State.reset 0xABCD0005 = some (2, 5, 0x80000000) ∧
    trapAfter { State.reset with params := { State.reset.params with illegalTval := .zero } } 0x30200073 = some (2, 0, 0x80000000) := by decide

/-- R44, R382 code 0. -/
theorem test_odd_pc_traps :
    (match step { State.reset with pc := 0x80000001 } with | .next t => some (t.mcause, t.mepc, t.pc) | _ => none) = some (0, 0x80000001, 0) := by decide

/-- R387. -/
theorem test_trap_return :
    (match State.trapReturn { State.reset with mepc := 0x1234, mstatus := 0x880 } with | .next t => some (t.pc, t.mode, t.mstatus) | _ => none)
      = some (0x1234, .supervisor, 0x888) := by decide

/-- R310, R319. -/
theorem test_c_addi4spn_addi16sp :
    regAfter (withRegs [(2, 0x1000)]) 0x0028 10 = some 0x1008 ∧ regAfter (withRegs [(2, 0x1000)]) 0x7179 2 = some 0xFD0 := by decide

/-- R316 to R318, R320. -/
theorem test_c_addi_addiw_li_lui :
    regAfter (withRegs [(1, 1)]) 0x1081 1 = some 0xFFFFFFFFFFFFFFE1 ∧ regAfter (withRegs [(10, 0x7FFFFFFF)]) 0x2505 10 = some 0xFFFFFFFF80000000 ∧
    regAfter State.reset 0x557D 10 = some 0xFFFFFFFFFFFFFFFF ∧ regAfter State.reset 0x757D 10 = some 0xFFFFFFFFFFFFF000 := by decide

/-- R315, R308. -/
theorem test_c_nop_two_bytes :
    pcAfter State.reset 0x0001 = some 0x80000002 := by decide

/-- R321 to R323, R333. -/
theorem test_c_shifts_andi :
    regAfter (withRegs [(8, 0x8000000000000000)]) 0x907D 8 = some 1 ∧ regAfter (withRegs [(8, 0x8000000000000000)]) 0x947D 8 = some 0xFFFFFFFFFFFFFFFF ∧
    regAfter (withRegs [(10, 0xFF)]) 0x897D 10 = some 31 ∧ regAfter (withRegs [(10, 3)]) 0x0506 10 = some 6 := by decide

/-- R324 to R329. -/
theorem test_c_alu :
    regAfter (withRegs [(10, 5), (11, 7)]) 0x8D0D 10 = some 0xFFFFFFFFFFFFFFFE ∧ regAfter (withRegs [(10, 5), (11, 7)]) 0x8D2D 10 = some 2 ∧
    regAfter (withRegs [(10, 5), (11, 7)]) 0x8D4D 10 = some 7 ∧ regAfter (withRegs [(10, 5), (11, 7)]) 0x8D6D 10 = some 5 ∧
    regAfter (withRegs [(10, 0x80000000), (11, 0)]) 0x9D0D 10 = some 0xFFFFFFFF80000000 ∧ regAfter (withRegs [(10, 0x7FFFFFFF), (11, 1)]) 0x9D2D 10 = some 0xFFFFFFFF80000000 := by decide

/-- R330, R336, R339: C.JALR through x1 reads the old x1. -/
theorem test_c_jumps :
    pcAfter State.reset 0xB001 = some 0x7FFFF800 ∧ pcAfter (withRegs [(1, 0x1235)]) 0x8082 = some 0x1234 ∧
    (run (withRegs [(1, 0x2000)]) 0x9082).map (fun t => (t.pc, t.reg 1)) = some (0x2000, 0x80000002) := by decide

/-- R331, R332, R308. -/
theorem test_c_branches :
    pcAfter State.reset 0xCC7D = some 0x800000FE ∧ pcAfter State.reset 0xF001 = some 0x80000002 ∧ pcAfter (withRegs [(8, 1)]) 0xF001 = some 0x7FFFFF00 := by decide

/-- R337, R338, R340. -/
theorem test_c_mv_add_ebreak :
    regAfter (withRegs [(11, 9)]) 0x852E 10 = some 9 ∧ regAfter (withRegs [(10, 1), (11, 9)]) 0x952E 10 = some 10 ∧ causeAfter State.reset 0x9002 = some (3, 0x80000000) := by decide

/-- R311 to R314, R290. -/
theorem test_c_loads_stores_on_both_paths :
    regAfter { withBytes with params := { withBytes.params with compressedPath := .quadrant } } 0x4188 10 = some 0xFFFFFFFF84838281 ∧
    regAfter { withBytes with params := { withBytes.params with compressedPath := .quadrant } } 0x6188 10 = some 0x8887868584838281 ∧
    (run { withBytes with params := { withBytes.params with compressedPath := .quadrant } } 0xC188).map (fun t => t.mem.bytes8 0x1000) = some 0x8887868500001000 ∧
    (run { withBytes with params := { withBytes.params with compressedPath := .quadrant } } 0xE188).map (fun t => t.mem.bytes8 0x1000) = some 0x1000 := by decide

/-- R334, R335, R341, R342. -/
theorem test_c_sp_forms :
    regAfter withBytes 0x4502 10 = some 0xFFFFFFFF84838281 ∧ regAfter withBytes 0x6502 10 = some 0x8887868584838281 ∧
    (run withBytes 0xC02A).map (fun t => t.mem.bytes8 0x1000) = some 0x8887868500001000 ∧ (run withBytes 0xE02A).map (fun t => t.mem.bytes8 0x1000) = some 0x1000 := by decide

/-- R286, R290, R381. -/
theorem test_quadrant_path_traps :
    trapAfter { State.reset with params := { State.reset.params with compressedPath := .quadrant } } 0x0001 = some (2, 1, 0x80000000) := by decide

/-- writing the unlisted value removes the entry. -/
theorem test_store_keeps_canonical_form :
    Memory.write (Memory.write [] 0x10 2 0x1234#16) 0x10 2 0#16 = [] ∧ Memory.write [] 0xFFFFFFFFFFFFFFFF 2 0x1234#16 = [(0, 0x12#8), (0xFFFFFFFFFFFFFFFF, 0x34#8)] := by decide

/-- R129, R132, the example 0x6188 of R132. -/
theorem test_ports :
    (ports 0x00006188#32 .expand 0x0028#16).tag = 14 ∧ (ports 0x00006188#32 .quadrant 0x0028#16).word = 0x0005B503#32 ∧
    (ports 0x00006188#32 .expand 0x0028#16).len = 2 ∧ (ports 0x00006188#32 .expand 0x0028#16).rs1 = 11 ∧ (ports 0x00006188#32 .expand 0x0028#16).expOut = 0x00810513#32 := by decide

/-- R140, R25. -/
theorem test_record :
    (Instruction.sd ⟨0x7E113FA3#32⟩).record.reads = [.integer 2, .integer 1] ∧ (Instruction.sd ⟨0x7E113FA3#32⟩).record.writes = [] ∧
    (Instruction.illegal ⟨0⟩).record.name = "ILLEGAL" ∧
    (Instruction.csrrw ⟨0x34029373#32⟩).record.reads = [.integer 5, .csr 0x340] ∧
    (Instruction.csrrw ⟨0x34029373#32⟩).record.writes = [.integer 6, .csr 0x340] ∧
    (Instruction.csrrsi ⟨0x34446073#32⟩).record.reads = [.csr 0x344] := by decide

/-- R351, R354, R360. -/
theorem test_classes :
    classify16 0x9D4D#16 = (.reserved, some .q1Reserved) ∧ classify16 0x0502#16 = (.hint, some .cSlli) ∧ classify16 0x2000#16 = (.unsupported, some .cFld) ∧
    classify16 0xFFFF#16 = (.notCompressed, none) ∧ classify32 0 = .illegalZero ∧ classify32 0x0000200F#32 = .reserved := by decide

/-- R111: ret, fence, and call of a negative low part. -/
theorem test_pseudo :
    Pseudo.ret.expansion.map encode = [0x00008067] ∧ Pseudo.fence.expansion.map encode = [0x0FF0000F] ∧
    (Pseudo.call 0x00000FFF#32).expansion = [.auipc 1 1, .jalr 1 1 0xFFF] := by decide

/-! ## Witnesses: for every statement with hypotheses, data that meets them -/

theorem witness_DecodeOfEncodeStandard :
    (Instr.jal 1 0x1FFFFE).wf = true ∧ (Instr.jal 1 0x1FFFFE).len = 4 := by decide

theorem witness_DecodeOfEncodeCompressed :
    (Instr.cJ 0xFFE).wf = true ∧ (Instr.cJ 0xFFE).len = 2 := by decide

theorem witness_EncodeOfDecode :
    decodeInstr 0x8000006F#32 = .ok (.jal 0 0x100000) ∧ decodeInstr 0xFFFF8082#32 = .ok (.cJr 1) := by decide

theorem witness_ImmediateValues :
    BitVec.extractLsb' 20 12 0x80000013#32 = 0x800#12 ∧ BitVec.extractLsb' 20 12 0x7FF00013#32 = 0x7FF#12 := by decide

theorem witness_StandardDecoderSteps :
    ((0x1#32 : Word32) ≠ 0 ∧ BitVec.extractLsb' 0 2 0x1#32 ≠ 0b11#2) ∧
    ((0x1F#32 : Word32) ≠ 0xFFFFFFFF#32 ∧ BitVec.extractLsb' 0 2 0x1F#32 = 0b11#2 ∧ BitVec.extractLsb' 2 3 0x1F#32 = 0b111#3) ∧
    (standardRows.any (fun r => 0x00500013#32 &&& r.mask == r.pattern) = true) ∧
    (∀ w ∈ [0x0000000B#32, 0x30200073#32, 0x00017083#32], BitVec.extractLsb' 0 2 w = 0b11#2 ∧ BitVec.extractLsb' 2 3 w ≠ 0b111#3 ∧
      standardRows.all (fun r => w &&& r.mask != r.pattern) = true) := by
  refine ⟨by decide, by decide, by decide, ?_⟩
  simp only [List.mem_cons, List.not_mem_nil, or_false, forall_eq_or_imp, forall_eq]
  decide

theorem witness_OneRowMatches :
    standardRows.length = 72 ∧ (standardRows.map (fun r => 0x37#32 &&& r.mask == r.pattern)).head? = some true := by decide

theorem witness_AllZeroIsTheIllegalVariant :
    BitVec.extractLsb' 0 16 0xFFFF0000#32 = 0 := by decide

theorem witness_PrivilegedSpaceIsUnimplemented :
    (BitVec.extractLsb' 0 7 0x30200073#32 = 0b1110011#7 ∧ BitVec.extractLsb' 12 3 0x30200073#32 = 0b000#3 ∧ (0x30200073#32 : Word32) ≠ 0x00000073#32 ∧
      (0x30200073#32 : Word32) ≠ 0x00100073#32) ∧ BitVec.extractLsb' 0 7 0x00004073#32 = 0b1110011#7 ∧ BitVec.extractLsb' 12 3 0x00004073#32 = 0b100#3 := by decide

theorem witness_SystemAndFenceOutcomes :
    (∀ w ∈ [0x00001073#32, 0x00002073#32, 0x00003073#32, 0x00005073#32, 0x00006073#32, 0x00007073#32], BitVec.extractLsb' 0 7 w = 0b1110011#7) ∧
    [0x00001073#32, 0x00002073#32, 0x00003073#32, 0x00005073#32, 0x00006073#32, 0x00007073#32].map (BitVec.extractLsb' 12 3)
      = [0b001#3, 0b010#3, 0b011#3, 0b101#3, 0b110#3, 0b111#3] ∧ BitVec.extractLsb' 0 7 0x0000700F#32 = 0b0001111#7 := by
  refine ⟨?_, by decide, by decide⟩
  simp only [List.mem_cons, List.not_mem_nil, or_false, forall_eq_or_imp, forall_eq]
  decide

theorem witness_NamingX0NeverRejects :
    decode32 0x00C58533#32 = .ok (.add ⟨0x00C58533#32⟩) ∧ (Instruction.add ⟨0x00C58533#32⟩).tag ≠ 0 ∧ (Instruction.add ⟨0x00C58533#32⟩).tag ≠ 65 ∧
    (Instruction.add ⟨0x00C58533#32⟩).tag ≠ 66 ∧ 0x00000033#32 &&& ~~~0x01FF8F80#32 = 0x00C58533#32 &&& ~~~0x01FF8F80#32 ∧
    0x00500013#32 &&& 0x0000707F#32 = 0x00000013#32 ∧ 0x8330000F#32 &&& 0x0000707F#32 = 0x0000000F#32 := by decide

theorem witness_CarrierHoldsTheWord :
    decode32 0x0005B503#32 = .ok (.ld ⟨0x0005B503#32⟩) ∧ decode 0x0005B503#32 .expand = (.ok (.ld ⟨0x0005B503#32⟩), 4) ∧
    decode 0x00006188#32 .quadrant = (.ok (.ld ⟨0x0005B503#32⟩), 2) ∧ (Instruction.ld ⟨0x0005B503#32⟩).tag ≠ 0 ∧
    BitVec.extractLsb' 0 2 0x0005B503#32 = 0b11#2 ∧ BitVec.extractLsb' 0 2 0x00006188#32 ≠ 0b11#2 := by decide

theorem witness_SentinelYieldsNoInstruction :
    expand 0x2000#16 = 0xFFFFFFFF#32 ∧ BitVec.extractLsb' 0 2 0x00002000#32 ≠ 0b11#2 ∧ BitVec.extractLsb' 0 16 0x00002000#32 ≠ 0 ∧
    expand (BitVec.extractLsb' 0 16 0x00002000#32) = 0xFFFFFFFF#32 := by decide

theorem witness_TagsNameTheVariants :
    72 < 73 ∧ (Instruction.csrrci ⟨1#32⟩).tag.toNat = 72 ∧ (Instruction.csrrci ⟨1#32⟩).word = 1#32 := by decide

theorem witness_PortsFollowTheOutcome :
    (decode 0x00006188#32 .expand).1 = .ok (.ld ⟨0x0005B503#32⟩) ∧ (decode 0x00006101#32 .expand).1 = .error .illegal ∧
    (decode 0x7E113FA3#32 .expand).1 = .ok (.sd ⟨0x7E113FA3#32⟩) ∧ (decode 0xFEB50CE3#32 .expand).1 = .ok (.beq ⟨0xFEB50CE3#32⟩) ∧
    (decode 0x123452B7#32 .expand).1 = .ok (.lui ⟨0x123452B7#32⟩) ∧ (decode 0x8000006F#32 .expand).1 = .ok (.jal ⟨0x8000006F#32⟩) ∧
    (decode 0x4013D393#32 .expand).1 = .ok (.srai ⟨0x4013D393#32⟩) ∧ (decode 0x41F5551B#32 .expand).1 = .ok (.sraiw ⟨0x41F5551B#32⟩) ∧
    (decode 0x8330000F#32 .expand).1 = .ok (.fence ⟨0x8330000F#32⟩) ∧ (decode 0x34029373#32 .expand).1 = .ok (.csrrw ⟨0x34029373#32⟩) ∧
    (decode 0x34446073#32 .expand).1 = .ok (.csrrsi ⟨0x34446073#32⟩) ∧ (decode 0x00C58533#32 .expand).1 = .ok (.add ⟨0x00C58533#32⟩) ∧
    (decode 0x00002000#32 .expand).1 = .error .unimplemented := by decide

theorem witness_LengthFromLowTwoBits :
    BitVec.extractLsb' 0 2 0x00500013#32 = 0b11#2 ∧ BitVec.extractLsb' 0 2 0xFFFF8082#32 ≠ 0b11#2 ∧
    BitVec.extractLsb' 0 2 0x0000001F#32 = 0b11#2 ∧ BitVec.extractLsb' 2 3 0x0000001F#32 = 0b111#3 := by decide

theorem witness_ReservedAndHintGiveTheSentinel :
    (classify16 0x0004#16).1 ≠ .legal ∧ (classify16 0x0005#16).1 ≠ .legal ∧ (classify16 0xFFFF#16).1 ≠ .legal := by decide

theorem witness_LegalFormsExpandAndDecode :
    expand 0x0001#16 ≠ 0xFFFFFFFF#32 ∧ expand 0xFF82#16 ≠ 0xFFFFFFFF#32 := by decide

theorem witness_ClassDecidesTheOutcome :
    ∀ p ∈ [(0x00000001#32, EncodingClass.legal), (0x12340000#32, .illegalZero), (0x00008002#32, .reserved), (0x00000002#32, .hint), (0x00002000#32, .unsupported)],
      BitVec.extractLsb' 0 2 p.1 ≠ 0b11#2 ∧ (classify16 (BitVec.extractLsb' 0 16 p.1)).1 = p.2 := by decide

theorem witness_ResetValues : isCounter csrMstatus = false ∧ isCounter 0xC00 = true ∧ isCounter 0xBFF = false ∧ isCounter 0xC03 = false := by decide

theorem witness_QuadrantDecoderPlacesBits :
    [0x5FFC#16, 0x7FFC#16, 0xDFFC#16, 0xFFFC#16].map (fun h => (BitVec.extractLsb' 0 2 h, BitVec.extractLsb' 13 3 h))
      = [(0#2, 0b010#3), (0#2, 0b011#3), (0#2, 0b110#3), (0#2, 0b111#3)] := by decide

theorem witness_TwoPathsRoundTrip :
    cdecode 0xFFFC#16 = .ok (.sd ⟨0x0EF7BC23#32⟩) ∧ (Instruction.sd ⟨0x0EF7BC23#32⟩).tag ≠ 0 ∧
    decode 0xABCDFFFC#32 .quadrant = (.ok (.sd ⟨0x0EF7BC23#32⟩), 2) ∧ decode 0x00500013#32 .quadrant = (.ok (.addi ⟨0x00500013#32⟩), 4) ∧
    [0x2000#16, 0x8000#16, 0xA000#16, 0x2002#16, 0xA002#16].map (fun h => (BitVec.extractLsb' 0 2 h, BitVec.extractLsb' 13 3 h))
      = [(0b00#2, 0b001#3), (0b00#2, 0b100#3), (0b00#2, 0b101#3), (0b10#2, 0b001#3), (0b10#2, 0b101#3)] ∧ BitVec.extractLsb' 0 2 0xFFFF#16 = 0b11#2 := by decide

theorem witness_CompressedFormsAbbreviate :
    [Instr.cAddi4spn 7 1020, .cLw 7 7 124, .cLd 7 7 248, .cSw 7 7 124, .cSd 7 7 248, .cAddi 31 0x20, .cAddiw 31 0x3F, .cLi 31 0x3F, .cAddi16sp 0x200, .cLui 31 0x3F,
      .cSrli 7 63, .cSrai 7 63, .cJ 0xFFE, .cBeqz 7 0x1FE, .cBnez 7 0x1FE, .cSlli 31 63, .cLwsp 31 252, .cLdsp 31 504, .cSwsp 31 252, .cSdsp 31 504].all Instr.wf = true ∧
    (31 : RegIdx) ≠ 0 := by decide

theorem witness_PseudoInstructionsDecode :
    (Pseudo.bgtu 1 2 0x1FFE).expansion.all Instr.wf = true ∧ (Pseudo.call 0x7FFFF7FF#32).expansion.all Instr.wf = true ∧ (0x7FFFF7FF#32).toInt < 0x7FFFF800 ∧
    (Instr.bgeu 2 1 0x1000).wf = true ∧ (Instr.jal 1 0xFFFFE).wf = true ∧ (Instr.fence 0 0 0 0b1111 0b1111).wf = true ∧
    Instr.bltu 2 1 0x1FFE ∈ (Pseudo.bgtu 1 2 0x1FFE).expansion := by decide

theorem witness_RegisterZeroIsHardWired :
    (31 : RegIdx) ≠ 0 ∧ (1 : RegIdx) ≠ 31 := by decide

theorem witness_FetchWordIsLittleEndian :
    State.reset.oldMems = [] := by decide

theorem witness_FetchSeesMemoryOrAnOlderOne :
    ∀ m ∈ ({ State.reset with oldMems := [[(0, 1#8)]] } : State).oldMems,
      m.read State.reset.pc 4 = State.reset.mem.read State.reset.pc 4 := by decide

theorem witness_StepRunsTheDecodedInstruction :
    (State.reset.withFetchWord 32 0x00500513).pc.extractLsb' 0 1 = 0#1 ∧
    decodeInstr (State.reset.withFetchWord 32 0x00500513).fetchWord = .ok (.addi 10 0 5) := by decide

theorem witness_StepTrapsWithoutAnInstruction :
    (State.reset.withFetchWord 32 0xFFFFFFFF).pc.extractLsb' 0 1 = 0#1 ∧ decodeInstr (State.reset.withFetchWord 32 0xFFFFFFFF).fetchWord = .error .illegal ∧
    decodeInstr (State.reset.withFetchWord 32 0x00000005).fetchWord = .error .unimplemented ∧ ({ State.reset with pc := 1 } : State).pc.extractLsb' 0 1 = 1#1 := by decide

theorem witness_StepKeepsTheInvariant :
    State.reset.inv = true ∧ (run State.reset 0x34029373).isSome = true ∧ (run withBytes 0x00B51323).isSome = true ∧
    (State.reset.withFetchWord 32 0x34029373).inv = true ∧ (withBytes.withFetchWord 32 0x00B51323).inv = true := by decide

theorem witness_ResetHasTheInvariant :
    BitVec.extractLsb' 0 1 0xFFFFFFFFFFFFFFFE#64 = 0#1 := by decide

theorem witness_StepKeepsTheParameters :
    (run State.reset 0x00500513).isSome = true := by decide

theorem witness_OnlyATrapChangesTheMode :
    (match exec .ecall { State.reset with mode := .user } with | .next _ => true | _ => false) = true ∧
    (match exec (.addi 1 2 3) { State.reset with mode := .user } with | .next _ => true | _ => false) = true := by decide

theorem witness_OnlyNamedRegistersAreWritten :
    (match execute (.add ⟨0x00C58533#32⟩) 4 State.reset with | .next _ => true | _ => false) = true ∧
    HostReg.integer 1 ∉ (Instruction.add ⟨0x00C58533#32⟩).record.writes ∧
    Cells.wf 0#64 0xC00 State.reset.csrs = true ∧
    (match execute (.csrrw ⟨0x34029373#32⟩) 4 State.reset with | .next _ => true | _ => false) = true ∧
    HostReg.csr 0x341 ∉ (Instruction.csrrw ⟨0x34029373#32⟩).record.writes := by decide

theorem witness_OnlyNamedRegistersAreRead :
    (match execute (.add ⟨0x00C58533#32⟩) 4 (withRegs [(11, 1), (12, 2)]) with | .next _ => true | _ => false) = true ∧
    (∀ r : RegIdx, HostReg.integer r ∈ (Instruction.add ⟨0x00C58533#32⟩).record.reads →
      ({ withRegs [(11, 1), (12, 2)] with regs := (withRegs [(11, 1), (12, 2), (10, 99), (31, 7)]).regs } : State).reg r =
        (withRegs [(11, 1), (12, 2)]).reg r) := by
  refine ⟨by decide, fun r h => ?_⟩
  have h' : r = 11 ∨ r = 12 := by
    simpa [Instruction.record, CarrierR.record, CarrierR.rs1, CarrierR.rs2, rs1Field, rs2Field] using h
  rcases h' with rfl | rfl <;> decide

/-- The trapping policy. -/
def trapping : State := { withBytes with params := { withBytes.params with misaligned := .trap } }

/-- An allowed access at the top of the address space under the trapping policy, and a misaligned one under the other. -/
theorem witness_LoadResults :
    AccessAllowed { trapping with regs := (trapping.setReg 1 0xFFFFFFFFFFFFFFF8).regs }
      (({ trapping with regs := (trapping.setReg 1 0xFFFFFFFFFFFFFFF8).regs } : State).reg 1 + (0 : BitVec 12).signExtend 64) 8 ∧
    AccessAllowed withBytes (withBytes.reg 2 + (1 : BitVec 12).signExtend 64) 2 ∧
    AccessAllowed withBytes (withBytes.reg 2 + (1 : BitVec 12).signExtend 64) 4 :=
  ⟨Or.inr (by decide), Or.inl (by decide), Or.inl (by decide)⟩

theorem witness_StoreEffects :
    withBytes.mem.wf = true ∧ AccessAllowed withBytes (withBytes.effAddr 2 (simm (1 : BitVec 12))) 2 ∧
    AccessAllowed trapping (trapping.effAddr 2 (simm (0xFFC : BitVec 12))) 4 ∧
    AccessAllowed trapping (trapping.effAddr 2 (simm (8 : BitVec 12))) 8 :=
  ⟨by decide, Or.inl (by decide), Or.inr (by decide), Or.inr (by decide)⟩

theorem witness_MisalignedAccessesTrap :
    AccessTraps trapping (trapping.effAddr 2 (simm (1 : BitVec 12))) 2 ∧
    AccessTraps trapping (trapping.effAddr 2 (simm (2 : BitVec 12))) 4 ∧
    AccessTraps trapping (trapping.effAddr 2 (simm (4 : BitVec 12))) 8 ∧
    AccessTraps { trapping with regs := (trapping.setReg 8 0x1002).regs }
      (({ trapping with regs := (trapping.setReg 8 0x1002).regs } : State).effAddr (popular 0) (uimm (124 : BitVec 7))) 4 ∧
    AccessTraps { trapping with regs := (trapping.setReg 8 0x1004).regs }
      (({ trapping with regs := (trapping.setReg 8 0x1004).regs } : State).effAddr (popular 0) (uimm (248 : BitVec 8))) 8 ∧
    trapping.params.compressedPath = .expand ∧
    AccessTraps { trapping with regs := (trapping.setReg 2 0x1001).regs }
      (({ trapping with regs := (trapping.setReg 2 0x1001).regs } : State).effAddr 2 (uimm (252 : BitVec 8))) 4 ∧
    AccessTraps { trapping with regs := (trapping.setReg 2 0x1001).regs }
      (({ trapping with regs := (trapping.setReg 2 0x1001).regs } : State).effAddr 2 (uimm (504 : BitVec 9))) 8 :=
  ⟨⟨by decide, by decide⟩, ⟨by decide, by decide⟩, ⟨by decide, by decide⟩, ⟨by decide, by decide⟩,
    ⟨by decide, by decide⟩, by decide, ⟨by decide, by decide⟩, ⟨by decide, by decide⟩⟩

/-- A machine-mode write of mstatus, a user-mode read of a counter, and an untouched read-only CSR in machine mode. -/
theorem witness_CsrAccessResults :
    Cells.wf 0#64 0xC00 State.reset.csrs = true ∧ CsrAllowed State.reset 0x300 True ∧
    CsrAllowed { State.reset with mode := .user } 0xC00 ((0 : RegIdx) ≠ 0) ∧ CsrAllowed State.reset 0xF11 ((0 : BitVec 5) ≠ 0) :=
  ⟨by decide, ⟨by decide, by decide, fun _ => by decide⟩, ⟨by decide, by decide, fun h => absurd rfl h⟩,
    ⟨by decide, by decide, fun h => absurd rfl h⟩⟩

/-- An absent CSR, a mode too low, and a write to a read-only CSR. -/
theorem witness_CsrAccessRefusedTraps :
    ¬ CsrAllowed { State.reset with params := { State.reset.params with absentCsrs := [0x340] } } 0x340 True ∧
    ¬ CsrAllowed { State.reset with mode := .supervisor } 0x300 ((0 : RegIdx) ≠ 0) ∧
    ¬ CsrAllowed State.reset 0xC00 ((1 : BitVec 5) ≠ 0) :=
  ⟨fun h => absurd h.1 (by decide), fun h => absurd h.2.1 (by decide), fun h => absurd (h.2.2 (by decide)) (by decide)⟩

theorem witness_EnvironmentCallAndBreakpoint : State.reset.params.compressedPath = .expand := by decide

theorem witness_CompressedArithmetic : State.reset.params.compressedPath = .expand := by decide

theorem witness_CompressedControl : State.reset.params.compressedPath = .expand := by decide

theorem witness_CompressedMemory :
    withBytes.params.compressedPath = .expand ∧ withBytes.mem.wf = true ∧
    AccessAllowed withBytes (withBytes.reg (popular 2) + (4 : BitVec 7).zeroExtend 64) 4 ∧
    AccessAllowed trapping (trapping.reg (popular 2) + (248 : BitVec 8).zeroExtend 64) 8 ∧
    AccessAllowed trapping (trapping.effAddr (popular 2) (uimm (124 : BitVec 7))) 4 ∧
    AccessAllowed trapping (trapping.effAddr (popular 2) (uimm (248 : BitVec 8))) 8 ∧
    trapping.params.compressedPath = .expand ∧ trapping.mem.wf = true ∧
    AccessAllowed trapping (trapping.reg 2 + (252 : BitVec 8).zeroExtend 64) 4 ∧
    AccessAllowed trapping (trapping.reg 2 + (504 : BitVec 9).zeroExtend 64) 8 ∧
    AccessAllowed trapping (trapping.effAddr 2 (uimm (252 : BitVec 8))) 4 ∧
    AccessAllowed trapping (trapping.effAddr 2 (uimm (504 : BitVec 9))) 8 :=
  ⟨by decide, by decide, Or.inl (by decide), Or.inr (by decide), Or.inr (by decide), Or.inr (by decide), by decide,
    by decide, Or.inr (by decide), Or.inr (by decide), Or.inr (by decide), Or.inr (by decide)⟩

theorem witness_QuadrantPathTraps :
    ({ State.reset with params := { State.reset.params with compressedPath := .quadrant } } : State).params.compressedPath
      = .quadrant := by decide

theorem witness_TrapReturnRestores :
    statusMPP (0x0000#64) = Mode.user.bits ∧ statusMPP (0x0800#64) = Mode.supervisor.bits ∧
    statusMPP (0x1800#64) = Mode.machine.bits ∧ statusMPP (0x1000#64) = 0b10#2 ∧ 2 ^ 60 - 1 < 2 ^ 60 := by decide

theorem witness_BranchForms : (0x7E000FE3#32 : Word32) &&& 0x0000707F#32 = 0x00000063#32 ∧
    (0xFFFFFFE3#32 : Word32) &&& 0x0000707F#32 = 0x00007063#32 := by decide

theorem witness_ImmediateArithmetic : (0xFFFFFF93#32 : Word32) &&& 0x0000707F#32 = 0x00007013#32 ∧
    (0x43FFDF93#32 : Word32) &&& 0xFC00707F#32 = 0x40005013#32 := by decide

theorem witness_RegisterArithmetic : (0x41FFDFB3#32 : Word32) &&& 0xFE00707F#32 = 0x40005033#32 := by decide

theorem witness_MultiplyResults : (0x03FFBFB3#32 : Word32) &&& 0xFE00707F#32 = 0x02003033#32 := by decide

theorem witness_DivideResults : (0x03FFFFB3#32 : Word32) &&& 0xFE00707F#32 = 0x02007033#32 := by decide

theorem witness_WordImmediateShifts : (0x41FFDF9B#32 : Word32) &&& 0xFE00707F#32 = 0x4000501B#32 := by decide

end Sys2Proof.Tests
end

section
/-! SUPPORT. Statements O26, O38 and O39: registers, and which registers a variant writes and reads. Each variant's meaning is
one of a few shared operations, with operands taken from registers its host record lists (`execute_operates`); what is written
and what is read is then proved once for each operation. -/

namespace Sys2Proof.Machine

/-! ## A state with other integer registers -/

/-- `s` with the integer registers `regs`. -/
def State.withRegs (s : State) (regs : Vector Word 31) : State := { s with regs := regs }

section
variable (s : State) (regs : Vector Word 31)

@[simp] theorem State.withRegs_mem : (s.withRegs regs).mem = s.mem := rfl

@[simp] theorem State.readCsr_withRegs (a : CsrIdx) : (s.withRegs regs).readCsr a = s.readCsr a := rfl

@[simp] theorem State.csrPermitted_withRegs (a : CsrIdx) (writes : Bool) :
    (s.withRegs regs).csrPermitted a writes = s.csrPermitted a writes := rfl

@[simp] theorem State.misalignedTraps_withRegs (a : Word) (n : Nat) :
    (s.withRegs regs).misalignedTraps a n = s.misalignedTraps a n := rfl

theorem State.writeCsr_withRegs (a : CsrIdx) (v : Word) :
    (s.withRegs regs).writeCsr a v = (s.writeCsr a v).withRegs regs := by
  unfold State.writeCsr
  split_ifs <;> rfl

/-- A register write over other registers differs from the same write over the old ones in registers alone. -/
theorem State.setReg_withRegs (rd : RegIdx) (v : Word) :
    (s.withRegs regs).setReg rd v = (s.setReg rd v).withRegs ((s.withRegs regs).setReg rd v).regs := by
  unfold State.setReg
  split <;> rfl

theorem State.reg_setReg_of_ne {rd r : RegIdx} (h : r ≠ rd) (v : Word) : (s.setReg rd v).reg r = s.reg r := by
  rw [State.reg_setReg, if_neg h]
  split
  next h0 => subst h0; rfl
  next => rfl

end

/-! ## Operands read from listed registers -/

/-- `regs` holds what `s` holds in the listed integer registers. -/
def AgreesOn (reads : List HostReg) (s : State) (regs : Vector Word 31) : Prop :=
  ∀ r : RegIdx, .integer r ∈ reads → (s.withRegs regs).reg r = s.reg r

theorem AgreesOn.head {a : RegIdx} {rest : List HostReg} {s : State} {regs : Vector Word 31}
    (h : AgreesOn (.integer a :: rest) s regs) : (s.withRegs regs).reg a = s.reg a :=
  h a List.mem_cons_self

theorem AgreesOn.tail {a : HostReg} {rest : List HostReg} {s : State} {regs : Vector Word 31}
    (h : AgreesOn (a :: rest) s regs) : AgreesOn rest s regs :=
  fun r hr => h r (List.mem_cons_of_mem a hr)

/-- `f` depends on no integer register but the listed ones. -/
def DependsOn {α : Type} (reads : List HostReg) (f : State → α) : Prop :=
  ∀ (s : State) (regs : Vector Word 31), AgreesOn reads s regs → f (s.withRegs regs) = f s

/-- What reads no integer register depends on none. -/
theorem DependsOn.none {α : Type} {reads : List HostReg} {f : State → α}
    (h : ∀ (s : State) (regs : Vector Word 31), f (s.withRegs regs) = f s) : DependsOn reads f :=
  fun s regs _ => h s regs

/-- The operations a meaning is written over, with every operand taken from the listed integer registers, and every register
written among the listed ones. -/
inductive Operates (reads writes : List HostReg) : (State → Result) → Prop where
  | sets (len : Nat) (rd : RegIdx) (v : State → Word) (hv : DependsOn reads v) (hrd : .integer rd ∈ writes) :
      Operates reads writes (fun s => s.regResult len rd (v s))
  | links (len : Nat) (rd : RegIdx) (target : State → Word) (ht : DependsOn reads target)
      (hrd : .integer rd ∈ writes) : Operates reads writes (fun s => s.link len rd (target s))
  | branches (len : Nat) (taken : State → Bool) (imm : Word) (ht : DependsOn reads taken) :
      Operates reads writes (fun s => s.branch len (taken s) imm)
  | loads (len n : Nat) (ext : BitVec (8 * n) → Word) (rd rs1 : RegIdx) (imm : Word)
      (ha : DependsOn reads (fun s => s.reg rs1)) (hrd : .integer rd ∈ writes) :
      Operates reads writes (fun s => s.load len n ext rd rs1 imm)
  | stores (len n : Nat) (rs1 rs2 : RegIdx) (imm : Word) (ha : DependsOn reads (fun s => s.reg rs1))
      (hv : DependsOn reads (fun s => s.reg rs2)) : Operates reads writes (fun s => s.store len n rs1 rs2 imm)
  | fences (len : Nat) : Operates reads writes (runFence len)
  | syncs (len : Nat) : Operates reads writes (runFenceI len)
  | raises (e : State → Exc) (he : DependsOn reads e) : Operates reads writes (fun s => s.exception (e s))
  | refuses (bits : Word32) : Operates reads writes (fun s => s.illegalInstruction bits)
  | accesses (len : Nat) (bits : Word32) (rd : RegIdx) (a : CsrIdx) (w : Bool) (f : State → Word → Word)
      (hf : DependsOn reads f) (hrd : .integer rd ∈ writes) (ha : .csr a ∈ writes) :
      Operates reads writes (fun s => s.csrOp len bits rd a w (f s))

theorem DependsOn.first {rs : RegIdx} {rest : List HostReg} : DependsOn (.integer rs :: rest) (fun s => s.reg rs) :=
  fun _ _ h => h.head

theorem DependsOn.second {a : HostReg} {rs : RegIdx} {rest : List HostReg} :
    DependsOn (a :: .integer rs :: rest) (fun s => s.reg rs) :=
  fun _ _ h => h.tail.head

/-- A function of operands that depend on the listed registers. -/
theorem DependsOn.map {α β : Type} {reads : List HostReg} {f : State → α} (hf : DependsOn reads f) (g : α → β) :
    DependsOn reads (fun s => g (f s)) :=
  fun s regs h => congrArg g (hf s regs h)

/-- A CSR access with the operand x[rs1]. -/
theorem Operates.ofCsr {len : Nat} (c : CarrierCsr) (w : Bool) (f : Word → Word → Word) :
    Operates [.integer c.rs1, .csr c.csr] [.integer c.rd, .csr c.csr]
      (fun s => s.csrOp len c.word c.rd c.csr w (f (s.reg c.rs1))) :=
  .accesses len c.word c.rd c.csr w _ (DependsOn.first.map f) (by simp) (by simp)

/-- A CSR access with the zero-extended zimm as its operand. -/
theorem Operates.ofCsrImm {len : Nat} (c : CarrierCsrImm) (w : Bool) (f : Word → Word → Word) :
    Operates [.csr c.csr] [.integer c.rd, .csr c.csr] (fun s => s.csrOp len c.word c.rd c.csr w (f (uimm c.zimm))) :=
  .accesses len c.word c.rd c.csr w _ (.none fun _ _ => rfl) (by simp) (by simp)

/-- Every variant's meaning is one of the operations, over the registers its record lists (10_state.md R25). -/
theorem execute_operates (v : Instruction) (len : Nat) : Operates v.record.reads v.record.writes (execute v len) := by
  cases v
  case illegal c => exact .refuses c.word
  case lui | auipc => exact .sets _ _ _ (.none fun _ _ => rfl) List.mem_cons_self
  case jal => exact .links _ _ _ (.none fun _ _ => rfl) List.mem_cons_self
  case jalr c => exact .links _ _ _ (DependsOn.first.map fun a => (a + c.imm) &&& ~~~1#64) List.mem_cons_self
  case beq | bne | blt | bge | bltu | bgeu =>
    exact .branches _ _ _ fun s regs h => by simp only [h.head, h.tail.head]
  case lb | lh | lw | ld | lbu | lhu | lwu => exact .loads _ _ _ _ _ _ .first List.mem_cons_self
  case sb | sh | sw | sd => exact .stores _ _ _ _ _ .first .second
  case addi | slti | sltiu | xori | ori | andi | slli | srli | srai | addiw | slliw | srliw | sraiw =>
    exact .sets _ _ _ (fun s regs h => by simp only [h.head]) List.mem_cons_self
  case add | sub | sll | slt | sltu | xor | srl | sra | or | and | mul | mulh | mulhsu | mulhu | div | divu | rem | remu |
      addw | subw | sllw | srlw | sraw | mulw | divw | divuw | remw | remuw =>
    exact .sets _ _ _ (fun s regs h => by simp only [h.head, h.tail.head]) List.mem_cons_self
  case fence => exact .fences len
  case fenceI => exact .syncs len
  case ecall => exact .raises _ (.none fun _ _ => rfl)
  case ebreak => exact .raises _ (.none fun _ _ => rfl)
  case csrrw c => exact .ofCsr c true (fun x _ => x)
  case csrrs c => exact .ofCsr c (c.rs1 != 0) (fun x t => t ||| x)
  case csrrc c => exact .ofCsr c (c.rs1 != 0) (fun x t => t &&& ~~~x)
  case csrrwi c => exact .ofCsrImm c true (fun x _ => x)
  case csrrsi c => exact .ofCsrImm c (c.zimm != 0) (fun x t => t ||| x)
  case csrrci c => exact .ofCsrImm c (c.zimm != 0) (fun x t => t &&& ~~~x)

/-! ## What is written -/

/-- From `s` to `t`, no integer register but the listed ones changes, and over canonical CSRs no CSR but the listed ones, unless
`t` is the entry to a trap. -/
def WritesOnly (writes : List HostReg) (s t : State) : Prop :=
  (∀ r : RegIdx, .integer r ∉ writes → t.reg r = s.reg r) ∧
    (Cells.wf 0#64 0xC00 s.csrs = true →
      (∀ a : CsrIdx, .csr a ∉ writes → t.readCsr a = s.readCsr a) ∨ ∃ code tval, TrapEffect s t code tval)

/-- An answer that completes is as its effect says. -/
theorem Completes.of_next {r : Result} {P : State → Prop} {t : State} (h : Completes r P) (ht : r = .next t) : P t := by
  obtain ⟨u, hu, hP⟩ := h
  cases hu.symm.trans ht
  exact hP

/-- Every CSR reads as before where the CSR fields and the free-value counter are as before. -/
theorem SameSystem.readCsr {s t : State} (h : SameSystem s t) (hm : SameModel s t) (a : CsrIdx) :
    t.readCsr a = s.readCsr a := by
  obtain ⟨_, hstatus, htvec, hepc, hcause, htval, hcsrs⟩ := h
  simp only [State.readCsr, hstatus, htvec, hepc, hcause, htval, hcsrs, hm.2]

section
variable {writes : List HostReg} {s t : State}

theorem TrapEffect.writesOnly {code : Nat} {tval : Word} (h : TrapEffect s t code tval) : WritesOnly writes s t := by
  have hregs : SameRegs s t := by
    obtain ⟨_, _, _, _, _, _, _, _, _, _, _, hregs, _⟩ := h
    exact hregs
  exact ⟨fun r _ => hregs r, fun _ => .inr ⟨code, tval, h⟩⟩

theorem RegEffect.writesOnly {rd : RegIdx} {v pc : Word} (h : RegEffect s t rd v pc) (hrd : .integer rd ∈ writes) :
    WritesOnly writes s t := by
  obtain ⟨hregs, _, _, hsys, hmodel⟩ := h
  refine ⟨fun r hr => ?_, fun _ => .inl fun a _ => hsys.readCsr hmodel a⟩
  rw [hregs, ← State.reg_setReg, State.reg_setReg_of_ne]
  rintro rfl
  exact hr hrd

/-- Nothing is written where every register, every CSR field and the free-value counter are as before. -/
theorem WritesOnly.of_same (hregs : t.regs = s.regs) (hsys : SameSystem s t) (hmodel : SameModel s t) :
    WritesOnly writes s t :=
  ⟨fun r _ => State.reg_congr hregs r, fun _ => .inl fun a _ => hsys.readCsr hmodel a⟩

theorem State.load_writesOnly {len n : Nat} {ext : BitVec (8 * n) → Word} {rd rs1 : RegIdx} {imm : Word}
    (hrd : .integer rd ∈ writes) (ht : s.load len n ext rd rs1 imm = .next t) : WritesOnly writes s t := by
  cases h : s.misalignedTraps (s.effAddr rs1 imm) n with
  | true => exact ((s.load_traps len n ext rd rs1 imm h).of_next ht).writesOnly
  | false => exact ((s.load_completes len n ext rd rs1 imm h).of_next ht).writesOnly hrd

theorem State.store_writesOnly {len n : Nat} {rs1 rs2 : RegIdx} {imm : Word}
    (ht : s.store len n rs1 rs2 imm = .next t) : WritesOnly writes s t := by
  cases h : s.misalignedTraps (s.effAddr rs1 imm) n with
  | true => exact ((s.store_traps len n rs1 rs2 imm h).of_next ht).writesOnly
  | false =>
    rw [State.store, if_neg (by simp [h])] at ht
    cases ht
    exact .of_same rfl (by simp [SameSystem]) (by simp [SameModel])

/-- A CSR access writes no integer register but rd, whatever form the CSRs have. -/
theorem State.csrOp_reg_of_ne {len : Nat} {bits : Word32} {rd r : RegIdx} {a : CsrIdx} {w : Bool} {f : Word → Word}
    (hr : r ≠ rd) (ht : s.csrOp len bits rd a w f = .next t) : t.reg r = s.reg r := by
  unfold State.csrOp at ht
  split at ht <;> cases ht
  · rw [State.reg_advance, State.reg_setReg_of_ne _ hr]
    split
    · exact s.reg_writeCsr a _ r
    · rfl
  · exact s.reg_takeTrap _ _ _ r

theorem State.csrOp_writesOnly {len : Nat} {bits : Word32} {rd : RegIdx} {a : CsrIdx} {w : Bool} {f : Word → Word}
    (hrd : .integer rd ∈ writes) (ha : .csr a ∈ writes) (ht : s.csrOp len bits rd a w f = .next t) :
    WritesOnly writes s t := by
  refine ⟨fun r hr => s.csrOp_reg_of_ne (fun h => hr (h ▸ hrd)) ht, fun hwf => ?_⟩
  cases h : s.csrPermitted a w with
  | true =>
    obtain ⟨_, hcsrs, _⟩ := (s.csrOp_completes hwf len bits rd a w f h).of_next ht
    refine .inl fun b hb => ?_
    rw [hcsrs, if_neg]
    rintro rfl
    exact hb ha
  | false => exact .inr ⟨_, _, (s.csrOp_refused len bits rd a w f h).of_next ht⟩

/-- Each operation writes only what is listed. -/
theorem Operates.writesOnly {reads : List HostReg} {run : State → Result} (h : Operates reads writes run)
    (ht : run s = .next t) : WritesOnly writes s t := by
  cases h with
  | sets len rd v _ hrd => exact ((s.regResult_completes len rd (v s)).of_next ht).writesOnly hrd
  | links len rd target _ hrd => exact ((s.link_completes len rd (target s)).of_next ht).writesOnly hrd
  | loads _ _ _ _ _ _ _ hrd => exact s.load_writesOnly hrd ht
  | stores => exact s.store_writesOnly ht
  | branches | fences | syncs => cases ht; exact .of_same rfl (by simp [SameSystem]) (by simp [SameModel])
  | raises e => exact ((s.exception_completes (e s)).of_next ht).writesOnly
  | refuses bits => exact ((s.illegalInstruction_completes bits).of_next ht).writesOnly
  | accesses _ _ _ _ _ _ _ hrd ha => exact s.csrOp_writesOnly hrd ha ht

end

/-! ## What is read -/

/-- The answer `a`, given from `s` over other registers `regs`, is `t` but for the registers; and in each register it agrees with
`t`, or neither answer wrote it. -/
def AnswersAlike (s t : State) (regs : Vector Word 31) (a : Result) : Prop :=
  ∃ regs', a = .next (t.withRegs regs') ∧ ∀ r : RegIdx, (t.withRegs regs').reg r = t.reg r ∨
    ((t.withRegs regs').reg r = (s.withRegs regs).reg r ∧ t.reg r = s.reg r)

section
variable {s t : State} {regs : Vector Word 31}

theorem AnswersAlike.of_unwritten (h : t.regs = s.regs) : AnswersAlike s t regs (.next (t.withRegs regs)) :=
  ⟨regs, rfl, fun r => .inr ⟨State.reg_congr rfl r, State.reg_congr h r⟩⟩

/-- Both answers write the same value to rd. -/
theorem AnswersAlike.of_written {u : State} (hu : u.regs = s.regs) (rd : RegIdx) (v : Word)
    (ht : t.regs = (u.setReg rd v).regs) :
    AnswersAlike s t regs (.next (t.withRegs ((u.withRegs regs).setReg rd v).regs)) := by
  refine ⟨_, rfl, fun r => ?_⟩
  have hr : t.reg r = (u.setReg rd v).reg r := State.reg_congr ht r
  have hr' : (t.withRegs ((u.withRegs regs).setReg rd v).regs).reg r = ((u.withRegs regs).setReg rd v).reg r :=
    State.reg_congr rfl r
  rw [hr, hr']
  by_cases h : r = rd
  · left
    simp only [State.reg_setReg, if_pos h]
  · right
    rw [State.reg_setReg_of_ne _ h, State.reg_setReg_of_ne _ h]
    exact ⟨State.reg_congr rfl r, State.reg_congr hu r⟩

theorem State.regResult_answersAlike {u : State} (hu : u.regs = s.regs) {len : Nat} {rd : RegIdx} {v : Word}
    (ht : u.regResult len rd v = .next t) : AnswersAlike s t regs ((u.withRegs regs).regResult len rd v) := by
  cases ht
  rw [State.regResult, State.setReg_withRegs]
  exact .of_written hu rd v rfl

theorem State.link_answersAlike {len : Nat} {rd : RegIdx} {target : Word} (ht : s.link len rd target = .next t) :
    AnswersAlike s t regs ((s.withRegs regs).link len rd target) := by
  cases ht
  rw [State.link, State.setReg_withRegs]
  exact .of_written rfl rd (s.nextPc len) rfl

theorem State.exception_answersAlike {e : Exc} (ht : s.exception e = .next t) :
    AnswersAlike s t regs ((s.withRegs regs).exception e) := by
  cases ht
  exact .of_unwritten rfl

theorem State.illegalInstruction_answersAlike {bits : Word32} (ht : s.illegalInstruction bits = .next t) :
    AnswersAlike s t regs ((s.withRegs regs).illegalInstruction bits) := by
  cases ht
  exact .of_unwritten rfl

theorem State.effAddr_withRegs {rs1 : RegIdx} (h : (s.withRegs regs).reg rs1 = s.reg rs1) (imm : Word) :
    (s.withRegs regs).effAddr rs1 imm = s.effAddr rs1 imm :=
  congrArg (· + imm) h

theorem State.load_answersAlike {len n : Nat} {ext : BitVec (8 * n) → Word} {rd rs1 : RegIdx} {imm : Word}
    (ha : (s.withRegs regs).reg rs1 = s.reg rs1) (ht : s.load len n ext rd rs1 imm = .next t) :
    AnswersAlike s t regs ((s.withRegs regs).load len n ext rd rs1 imm) := by
  rw [State.load] at ht ⊢
  rw [State.effAddr_withRegs ha, State.misalignedTraps_withRegs, State.withRegs_mem]
  split_ifs at ht ⊢
  · exact s.exception_answersAlike ht
  · exact State.regResult_answersAlike rfl ht

theorem State.store_answersAlike {len n : Nat} {rs1 rs2 : RegIdx} {imm : Word}
    (ha : (s.withRegs regs).reg rs1 = s.reg rs1) (hv : (s.withRegs regs).reg rs2 = s.reg rs2)
    (ht : s.store len n rs1 rs2 imm = .next t) :
    AnswersAlike s t regs ((s.withRegs regs).store len n rs1 rs2 imm) := by
  rw [State.store] at ht ⊢
  rw [State.effAddr_withRegs ha, hv, State.misalignedTraps_withRegs]
  split_ifs at ht ⊢
  · exact s.exception_answersAlike ht
  · cases ht
    exact .of_unwritten rfl

theorem State.csrOp_answersAlike {len : Nat} {bits : Word32} {rd : RegIdx} {a : CsrIdx} {w : Bool} {f : Word → Word}
    (ht : s.csrOp len bits rd a w f = .next t) :
    AnswersAlike s t regs ((s.withRegs regs).csrOp len bits rd a w f) := by
  simp only [State.csrOp, State.csrPermitted_withRegs, State.readCsr_withRegs, State.writeCsr_withRegs] at ht ⊢
  split_ifs at ht ⊢
  · exact State.regResult_answersAlike (s.writeCsr_regs a _) ht
  · exact State.regResult_answersAlike rfl ht
  · exact s.illegalInstruction_answersAlike ht

/-- Each operation answers alike over registers that agree on the listed ones. -/
theorem Operates.answersAlike {reads writes : List HostReg} {run : State → Result} (h : Operates reads writes run)
    (hreads : AgreesOn reads s regs) (ht : run s = .next t) : AnswersAlike s t regs (run (s.withRegs regs)) := by
  cases h with
  | sets len rd v hv => simp only [hv s regs hreads]; exact State.regResult_answersAlike rfl ht
  | links len rd target htarget => simp only [htarget s regs hreads]; exact s.link_answersAlike ht
  | branches len taken imm htaken => simp only [htaken s regs hreads]; cases ht; exact .of_unwritten rfl
  | loads _ _ _ _ _ _ ha => exact s.load_answersAlike (ha s regs hreads) ht
  | stores _ _ _ _ _ ha hv => exact s.store_answersAlike (ha s regs hreads) (hv s regs hreads) ht
  | fences | syncs => cases ht; exact .of_unwritten rfl
  | raises e he => simp only [he s regs hreads]; exact s.exception_answersAlike ht
  | refuses => exact s.illegalInstruction_answersAlike ht
  | accesses _ _ _ _ _ f hf => simp only [hf s regs hreads]; exact s.csrOp_answersAlike ht

end

/-! ## The statements -/

/-- Settles O38: the variant's meaning is one of the operations, each of which writes only what it lists. -/
theorem onlyNamedRegistersAreWritten : Obligations.OnlyNamedRegistersAreWritten :=
  fun v len _ _ ht => (execute_operates v len).writesOnly ht

/-- Settles O39: the variant's meaning is one of the operations, each of which reads only what it lists. -/
theorem onlyNamedRegistersAreRead : Obligations.OnlyNamedRegistersAreRead := by
  intro v len s t regs hreads ht
  obtain ⟨regs', hanswer, hregs⟩ := (execute_operates v len).answersAlike hreads ht
  exact ⟨t.withRegs regs', hanswer, rfl, fun r _ => hregs r⟩

/-- Settles O26: what a register reads after a write (`State.reg_setReg`), at the same register and at another. -/
theorem registerZeroIsHardWired : Obligations.RegisterZeroIsHardWired := by
  refine fun s v => ⟨s.reg_zero, s.setReg_zero v, fun rd hrd => ⟨?_, fun r hr => s.reg_setReg_of_ne hr v⟩⟩
  rw [State.reg_setReg, if_neg hrd, if_pos rfl]

end Sys2Proof.Machine
end

section
/-! SUPPORT. Statements O17, O27 and O58: the length of a fetch and its half that counts, the fetch as four bytes of memory, and
the results of the word and doubleword accesses at any length, which the compressed forms run at length 2. -/

namespace Sys2Proof.Machine

/-! ## The length of a fetch (20_memory.md R42) -/

/-- The low two bits of a fetch are those of its low half. -/
theorem lowTwo_lowHalf (fetch : Word32) : (lowHalf fetch).extractLsb' 0 2 = fetch.extractLsb' 0 2 := by
  ext i hi
  simp [lowHalf]

@[simp] theorem lowHalf_append (u h : Half) : lowHalf (u ++ h) = h := BitVec.extractLsb'_append_eq_right

theorem isStandard_iff {fetch : Word32} : isStandard fetch = true ↔ fetch.extractLsb' 0 2 = 0b11#2 := beq_iff_eq

/-- The outcome of a 2-byte fetch, a function of its low half alone (40_dispatch.md R121). -/
def decodeHalfOn (path : CompressedPath) (h : Half) : DecodeOutcome :=
  match path with
  | .quadrant => cdecode h
  | .expand => decodeExpand h

section
variable {fetch : Word32} {path : CompressedPath}

theorem decode_of_standard (h : fetch.extractLsb' 0 2 = 0b11#2) : decode fetch path = (decode32 fetch, 4) :=
  if_pos (isStandard_iff.mpr h)

theorem decode_of_compressed (h : fetch.extractLsb' 0 2 ≠ 0b11#2) :
    decode fetch path = (decodeHalfOn path (lowHalf fetch), 2) := by
  have hlen : ¬ isStandard fetch = true := mt isStandard_iff.mp h
  cases path <;> exact if_neg hlen

/-- A 2-byte fetch decodes as any other with the same low half. -/
theorem decode_congr_lowHalf {fetch' : Word32} (h : fetch.extractLsb' 0 2 ≠ 0b11#2) (hlow : lowHalf fetch' = lowHalf fetch) :
    decode fetch' path = decode fetch path := by
  have h' : fetch'.extractLsb' 0 2 ≠ 0b11#2 := by rwa [← lowTwo_lowHalf, hlow, lowTwo_lowHalf]
  rw [decode_of_compressed h', decode_of_compressed h, hlow]

end

/-- A word of the spaces above 32 bits decodes to an error: the all-ones word by its own step of R123, any other by the test
of w[4:2]. -/
theorem decode32_of_longSpace {w : Word32} (hlow : w.extractLsb' 0 2 = 0b11#2) (hlong : w.extractLsb' 2 3 = 0b111#3) :
    decode32 w = .error (if w = 0xFFFFFFFF#32 then .illegal else .unimplemented) := by
  have hzero : w ≠ 0#32 := by rintro rfl; exact absurd hlow (by decide)
  by_cases hones : w = 0xFFFFFFFF#32
  · subst hones; rfl
  · simp [decode32, hzero, hones, hlow, hlong]

/-! ## A fetch as four bytes (20_memory.md R41) -/

theorem assemble_eq_append (b0 b1 b2 b3 : Byte) : assemble b0 b1 b2 b3 = (b3 ++ b2) ++ (b1 ++ b0) := BitVec.append_assoc

theorem lowHalf_assemble (b0 b1 b2 b3 : Byte) : lowHalf (assemble b0 b1 b2 b3) = b1 ++ b0 := by
  rw [assemble_eq_append, lowHalf_append]

/-- The four bytes of memory from `a` on, put together as a fetch. -/
theorem Memory.read_four_eq_assemble (m : Memory) (a : Word) :
    m.read a 4 = assemble (m.readByte a) (m.readByte (a + 1)) (m.readByte (a + 2)) (m.readByte (a + 3)) := by
  have hnext : a + 2 + 1 = a + 3 := BitVec.add_assoc a 2 1
  rw [Memory.read_four, Memory.bytes4, Memory.bytes2, Memory.bytes2, hnext, assemble_eq_append]

/-! ## Word and doubleword accesses at any length (42_load_store.md R181 to R183) -/

section
variable {s : State} {rs1 : RegIdx} {imm : Word}

theorem runLw_completes (h : AccessAllowed s (s.effAddr rs1 imm) 4) (len : Nat) (rd : RegIdx) :
    Completes (runLw len rd rs1 imm s)
      (fun t => RegEffect s t rd ((s.mem.bytes4 (s.effAddr rs1 imm)).signExtend 64) (s.nextPc len)) := by
  rw [← Memory.read_four]
  exact s.load_completes len 4 _ rd rs1 imm (s.misalignedTraps_of_allowed h)

theorem runLd_completes (h : AccessAllowed s (s.effAddr rs1 imm) 8) (len : Nat) (rd : RegIdx) :
    Completes (runLd len rd rs1 imm s)
      (fun t => RegEffect s t rd (s.mem.bytes8 (s.effAddr rs1 imm)) (s.nextPc len)) := by
  rw [← BitVec.setWidth_eq (s.mem.bytes8 _), ← Memory.read_eight]
  exact s.load_completes len 8 _ rd rs1 imm (s.misalignedTraps_of_allowed h)

theorem runSw_completes (hwf : s.mem.wf = true) (h : AccessAllowed s (s.effAddr rs1 imm) 4) (len : Nat) (rs2 : RegIdx) :
    Completes (runSw len rs1 rs2 imm s)
      (fun t => StoreEffect s t (s.effAddr rs1 imm) 4 ((s.reg rs2).extractLsb' 0 32) (s.nextPc len)) :=
  s.store_completes hwf len (by norm_num) rs1 rs2 imm (s.misalignedTraps_of_allowed h)

theorem runSd_completes (hwf : s.mem.wf = true) (h : AccessAllowed s (s.effAddr rs1 imm) 8) (len : Nat) (rs2 : RegIdx) :
    Completes (runSd len rs1 rs2 imm s)
      (fun t => StoreEffect s t (s.effAddr rs1 imm) 8 ((s.reg rs2).extractLsb' 0 64) (s.nextPc len)) :=
  s.store_completes hwf len (by norm_num) rs1 rs2 imm (s.misalignedTraps_of_allowed h)

end

/-- On the expand path a form's answer is its meaning's. -/
theorem Completes.onExpandPath {s : State} {parcel : Word32} {run : Result} {P : State → Prop}
    (hpath : s.params.compressedPath = .expand) (h : Completes run P) : Completes (s.onExpandPath parcel run) P := by
  rwa [s.onExpandPath_expand hpath]

/-! ## The statements -/

/-- Settles O17: the length test picks the decoder, and the long spaces hold no instruction (`decode32_of_longSpace`). -/
theorem lengthFromLowTwoBits : Obligations.LengthFromLowTwoBits := by
  refine fun fetch path => ⟨decode_of_standard, fun h => ⟨?_, fun u => ?_⟩, fun hlow hlong v => ?_⟩
  · rw [decode_of_compressed h]
  · exact decode_congr_lowHalf h (lowHalf_append u (lowHalf fetch))
  · rw [decode_of_standard hlow, decode32_of_longSpace hlow hlong]
    nofun

/-- Settles O27: with no older memory the fetch reads memory's four bytes (`State.fetchWord_eq`), put together lowest first. -/
theorem fetchWordIsLittleEndian : Obligations.FetchWordIsLittleEndian := by
  refine ⟨fun b0 b1 b2 b3 => ⟨rfl, lowHalf_assemble b0 b1 b2 b3⟩, fun s hold => ?_, by decide⟩
  rw [s.fetchWord_eq hold, Memory.read_four_eq_assemble]

/-- Settles O58: each form runs LW, LD, SW or SD at length 2; those that name sp do so on the expand path alone. -/
theorem compressedMemory : Obligations.CompressedMemory :=
  ⟨fun _ rdp _ _ h => runLw_completes h 2 (popular rdp),
    fun _ rdp _ _ h => runLd_completes h 2 (popular rdp),
    fun _ _ rs2p _ hwf h => runSw_completes hwf h 2 (popular rs2p),
    fun _ _ rs2p _ hwf h => runSd_completes hwf h 2 (popular rs2p),
    fun _ rd _ hpath h => (runLw_completes h 2 rd).onExpandPath hpath,
    fun _ rd _ hpath h => (runLd_completes h 2 rd).onExpandPath hpath,
    fun _ rs2 _ hpath hwf h => (runSw_completes hwf h 2 rs2).onExpandPath hpath,
    fun _ rs2 _ hpath hwf h => (runSd_completes hwf h 2 rs2).onExpandPath hpath⟩

end Sys2Proof.Machine
end

section
/-! SUPPORT. Statements O5, O6, O25 and O56: the standard encodings and their immediates (30_encoding.md), and the compressed
arithmetic. A word that matches a row of the table decodes to it, because the rows are disjoint; so the decoder reads back every
standard form, format by format, and each pseudo-instruction is such forms. -/

namespace Sys2Proof.Machine

/-! ## The standard rows are disjoint, so a word that matches a row decodes to it (40_dispatch.md R123, R128) -/

/-- The patterns of the two rows differ at a bit both masks fix, so no word matches both. -/
def Row.Disjoint (r t : Row) : Prop := r.pattern &&& t.mask ≠ t.pattern &&& r.mask

theorem standardRows_pairwise_disjoint : standardRows.Pairwise Row.Disjoint := by
  unfold Row.Disjoint
  decide

/-- Every row fixes the whole opcode, and it is one of the 32-bit space. -/
theorem standardRows_opcode : ∀ r ∈ standardRows, opcode r.mask = BitVec.allOnes 7 ∧
    (opcode r.pattern).extractLsb' 0 2 = 0b11#2 ∧ (opcode r.pattern).extractLsb' 2 3 ≠ 0b111#3 := by decide

theorem Row.matches_iff {r : Row} {w : Word32} : r.matches w = true ↔ w &&& r.mask = r.pattern := beq_iff_eq

section
variable {r t : Row} {w : Word32}

/-- No word matches two rows. -/
theorem eq_of_matches (hr : r ∈ standardRows) (ht : t ∈ standardRows) (hrw : w &&& r.mask = r.pattern)
    (htw : w &&& t.mask = t.pattern) : r = t := by
  by_contra hne
  have : Std.Symm Row.Disjoint := ⟨fun _ _ => Ne.symm⟩
  refine standardRows_pairwise_disjoint.forall hr ht hne ?_
  rw [← hrw, ← htw, BitVec.and_assoc, BitVec.and_assoc, BitVec.and_comm r.mask]

theorem decodeRows_of_row (hr : r ∈ standardRows) (hw : w &&& r.mask = r.pattern) : decodeRows w = .ok (r.build w) := by
  have hsome : (standardRows.find? (Row.matches · w)).isSome := List.find?_isSome.mpr ⟨r, hr, Row.matches_iff.mpr hw⟩
  obtain ⟨t, ht⟩ := Option.isSome_iff_exists.mp hsome
  have htw : t.matches w = true := List.find?_some (p := (Row.matches · w)) ht
  rw [decodeRows, ht, eq_of_matches (List.mem_of_find?_eq_some ht) hr (Row.matches_iff.mp htw) hw]

theorem opcode_of_row (hr : r ∈ standardRows) (hw : w &&& r.mask = r.pattern) : opcode w = opcode r.pattern := by
  obtain ⟨hmask, _⟩ := standardRows_opcode r hr
  calc opcode w = opcode w &&& opcode r.mask := by rw [hmask, BitVec.and_allOnes]
    _ = opcode (w &&& r.mask) := BitVec.extractLsb'_and.symm
    _ = opcode r.pattern := by rw [hw]

/-- A word that matches a row is a standard word, and not of the spaces above 32 bits (20_memory.md R42). -/
theorem lowBits_of_row (hr : r ∈ standardRows) (hw : w &&& r.mask = r.pattern) :
    w.extractLsb' 0 2 = 0b11#2 ∧ w.extractLsb' 2 3 ≠ 0b111#3 := by
  obtain ⟨_, hbits⟩ := standardRows_opcode r hr
  rw [← opcode_of_row hr hw] at hbits
  simpa [opcode] using hbits

/-- The row a word matches decides its variant. -/
theorem decode32_of_row (hr : r ∈ standardRows) : DecodesTo r.pattern r.mask r.build := by
  intro w hw
  obtain ⟨hlow, hlong⟩ := lowBits_of_row hr hw
  have hzero : w ≠ 0#32 := by rintro rfl; exact absurd hlow (by decide)
  have hones : w ≠ 0xFFFFFFFF#32 := by rintro rfl; exact absurd rfl hlong
  simp [decode32, hzero, hones, hlow, hlong, decodeRows_of_row hr hw]

end

/-! ## Which word matches a row, said by its dispatch fields (30_encoding.md R61) -/

section
variable (w : Word32)

theorem and_opcodeMask : w &&& 0x0000007F#32 = 0#25 ++ opcode w := by
  apply BitVec.eq_of_getLsbD_eq
  intro i hi
  simp only [opcode, BitVec.getLsbD_and, BitVec.getLsbD_append, BitVec.getLsbD_extractLsb']
  interval_cases i <;> simp

theorem and_funct3Mask : w &&& 0x0000707F#32 = 0#17 ++ funct3 w ++ 0#5 ++ opcode w := by
  apply BitVec.eq_of_getLsbD_eq
  intro i hi
  simp only [opcode, funct3, BitVec.getLsbD_and, BitVec.getLsbD_append, BitVec.getLsbD_extractLsb']
  interval_cases i <;> simp

theorem and_funct6Mask : w &&& 0xFC00707F#32 = funct6 w ++ 0#11 ++ funct3 w ++ 0#5 ++ opcode w := by
  apply BitVec.eq_of_getLsbD_eq
  intro i hi
  simp only [opcode, funct3, funct6, BitVec.getLsbD_and, BitVec.getLsbD_append, BitVec.getLsbD_extractLsb']
  interval_cases i <;> simp

theorem and_funct7Mask : w &&& 0xFE00707F#32 = funct7 w ++ 0#10 ++ funct3 w ++ 0#5 ++ opcode w := by
  apply BitVec.eq_of_getLsbD_eq
  intro i hi
  simp only [opcode, funct3, funct7, BitVec.getLsbD_and, BitVec.getLsbD_append, BitVec.getLsbD_extractLsb']
  interval_cases i <;> simp

end

/-! ## Reading back an encoded standard form

The rows of the table stand in the order of the constructors of `Instr`, after the all-zero word. -/

theorem decodeInstr_encode_of_row {i : Instr} {r : Row} (hr : standardRows[i.ctorIdx - 1]? = some r)
    (hm : encode i &&& r.mask = r.pattern) (hf : formOf (r.build (encode i)) = i) : decodeInstr (encode i) = .ok i := by
  have hmem : r ∈ standardRows := List.mem_of_getElem? hr
  obtain ⟨hlow, _⟩ := lowBits_of_row hmem hm
  rw [decodeInstr, if_pos (isStandard_iff.mpr hlow), decode32_of_row hmem _ hm]
  exact congrArg _ hf

section
variable {build : Word32 → Instruction} {f3 : BitVec 3} {op : BitVec 7} {rd rs1 rs2 : RegIdx}

theorem decodeInstr_wordR {mk : RegIdx → RegIdx → RegIdx → Instr} {f7 : BitVec 7}
    (he : encode (mk rd rs1 rs2) = wordR f7 rs2 rs1 f3 rd op)
    (hr : standardRows[(mk rd rs1 rs2).ctorIdx - 1]? =
      some ⟨f7 ++ 0#10 ++ f3 ++ 0#5 ++ op, 0xFE00707F#32, build⟩)
    (hf : ∀ w, formOf (build w) = mk (rdField w) (rs1Field w) (rs2Field w)) :
    decodeInstr (encode (mk rd rs1 rs2)) = .ok (mk rd rs1 rs2) := by
  refine decodeInstr_encode_of_row hr ?_ ?_
  · rw [he, and_funct7Mask, funct7_wordR, funct3_wordR, opcode_wordR]
  · rw [he, hf, rdField_wordR, rs1Field_wordR, rs2Field_wordR]

theorem decodeInstr_wordI {mk : RegIdx → RegIdx → BitVec 12 → Instr} {imm : BitVec 12}
    (he : encode (mk rd rs1 imm) = wordI imm rs1 f3 rd op)
    (hr : standardRows[(mk rd rs1 imm).ctorIdx - 1]? = some ⟨0#17 ++ f3 ++ 0#5 ++ op, 0x0000707F#32, build⟩)
    (hf : ∀ w, formOf (build w) = mk (rdField w) (rs1Field w) (immI12 w)) :
    decodeInstr (encode (mk rd rs1 imm)) = .ok (mk rd rs1 imm) := by
  refine decodeInstr_encode_of_row hr ?_ ?_
  · rw [he, and_funct3Mask, funct3_wordI, opcode_wordI]
  · rw [he, hf, rdField_wordI, rs1Field_wordI, immI12_wordI]

theorem decodeInstr_wordS {mk : RegIdx → RegIdx → BitVec 12 → Instr} {imm : BitVec 12}
    (he : encode (mk rs1 rs2 imm) = wordS imm rs2 rs1 f3 op)
    (hr : standardRows[(mk rs1 rs2 imm).ctorIdx - 1]? = some ⟨0#17 ++ f3 ++ 0#5 ++ op, 0x0000707F#32, build⟩)
    (hf : ∀ w, formOf (build w) = mk (rs1Field w) (rs2Field w) (immS12 w)) :
    decodeInstr (encode (mk rs1 rs2 imm)) = .ok (mk rs1 rs2 imm) := by
  refine decodeInstr_encode_of_row hr ?_ ?_
  · rw [he, and_funct3Mask, funct3_wordS, opcode_wordS]
  · rw [he, hf, rs1Field_wordS, rs2Field_wordS, immS12_wordS]

/-- The implicit zero bit of an offset. -/
theorem lowBit_of_lowZero {n : Nat} {v : BitVec (n + 1)} (h : lowZero 1 v = true) : v[0] = false := by
  have h0 : v.extractLsb' 0 1 = 0#1 := beq_iff_eq.mp h
  simpa using congrArg (·.getLsbD 0) h0

theorem decodeInstr_wordB {mk : RegIdx → RegIdx → BitVec 13 → Instr} {imm : BitVec 13} (hwf : lowZero 1 imm = true)
    (he : encode (mk rs1 rs2 imm) = wordB imm rs2 rs1 f3 op)
    (hr : standardRows[(mk rs1 rs2 imm).ctorIdx - 1]? = some ⟨0#17 ++ f3 ++ 0#5 ++ op, 0x0000707F#32, build⟩)
    (hf : ∀ w, formOf (build w) = mk (rs1Field w) (rs2Field w) (immB13 w)) :
    decodeInstr (encode (mk rs1 rs2 imm)) = .ok (mk rs1 rs2 imm) := by
  refine decodeInstr_encode_of_row hr ?_ ?_
  · rw [he, and_funct3Mask, funct3_wordB, opcode_wordB]
  · rw [he, hf, rs1Field_wordB, rs2Field_wordB, immB13_wordB _ _ _ _ _ (lowBit_of_lowZero hwf)]

theorem decodeInstr_wordU {mk : RegIdx → BitVec 20 → Instr} {imm : BitVec 20}
    (he : encode (mk rd imm) = wordU imm rd op)
    (hr : standardRows[(mk rd imm).ctorIdx - 1]? = some ⟨0#25 ++ op, 0x0000007F#32, build⟩)
    (hf : ∀ w, formOf (build w) = mk (rdField w) (immU20 w)) :
    decodeInstr (encode (mk rd imm)) = .ok (mk rd imm) := by
  refine decodeInstr_encode_of_row hr ?_ ?_
  · rw [he, and_opcodeMask, opcode_wordU]
  · rw [he, hf, rdField_wordU, immU20_wordU]

theorem decodeInstr_wordShift64 {mk : RegIdx → RegIdx → BitVec 6 → Instr} {f6 shamt : BitVec 6}
    (he : encode (mk rd rs1 shamt) = wordShift64 f6 shamt rs1 f3 rd)
    (hr : standardRows[(mk rd rs1 shamt).ctorIdx - 1]? =
      some ⟨f6 ++ 0#11 ++ f3 ++ 0#5 ++ 0b0010011#7, 0xFC00707F#32, build⟩)
    (hf : ∀ w, formOf (build w) = mk (rdField w) (rs1Field w) (shamt6 w)) :
    decodeInstr (encode (mk rd rs1 shamt)) = .ok (mk rd rs1 shamt) := by
  refine decodeInstr_encode_of_row hr ?_ ?_
  · rw [he, and_funct6Mask, funct6_wordShift64, funct3_wordShift64, opcode_wordShift64]
  · rw [he, hf, rdField_wordShift64, rs1Field_wordShift64, shamt6_wordShift64]

theorem decodeInstr_wordShift32 {mk : RegIdx → RegIdx → BitVec 5 → Instr} {f7 : BitVec 7} {shamt : BitVec 5}
    (he : encode (mk rd rs1 shamt) = wordShift32 f7 shamt rs1 f3 rd)
    (hr : standardRows[(mk rd rs1 shamt).ctorIdx - 1]? =
      some ⟨f7 ++ 0#10 ++ f3 ++ 0#5 ++ 0b0011011#7, 0xFE00707F#32, build⟩)
    (hf : ∀ w, formOf (build w) = mk (rdField w) (rs1Field w) (shamt5 w)) :
    decodeInstr (encode (mk rd rs1 shamt)) = .ok (mk rd rs1 shamt) := by
  refine decodeInstr_encode_of_row hr ?_ ?_
  · rw [he, and_funct7Mask, funct7_wordShift32, funct3_wordShift32, opcode_wordShift32]
  · rw [he, hf, rdField_wordShift32, rs1Field_wordShift32, shamt5_wordShift32]

theorem decodeInstr_jal {imm : BitVec 21} (hwf : lowZero 1 imm = true) :
    decodeInstr (encode (.jal rd imm)) = .ok (.jal rd imm) := by
  refine decodeInstr_encode_of_row rfl ?_ ?_
  · rw [encode, and_opcodeMask, opcode_wordJ]; rfl
  · simp [encode, formOf, CarrierJ.rd, rdField_wordJ, immJ21_wordJ _ _ _ (lowBit_of_lowZero hwf)]

theorem decodeInstr_fence {fm pred succ : BitVec 4} :
    decodeInstr (encode (.fence rd rs1 fm pred succ)) = .ok (.fence rd rs1 fm pred succ) := by
  refine decodeInstr_encode_of_row rfl ?_ ?_
  · rw [encode, and_funct3Mask, funct3_wordFence, opcode_wordFence]; rfl
  · simp [encode, formOf, CarrierFence.rd, CarrierFence.rs1, CarrierFence.fm, CarrierFence.pred, CarrierFence.succ,
      rdField_wordFence, rs1Field_wordFence, fmField_wordFence, predField_wordFence, succField_wordFence]

end

/-- The decoder reads back every well-formed standard form, format by format. -/
theorem decodeInstr_encode_of_standard {i : Instr} (hwf : i.wf = true) (hlen : i.len = 4) :
    decodeInstr (encode i) = .ok i := by
  cases i
  case lui | auipc => exact decodeInstr_wordU rfl rfl fun _ => rfl
  case jal => exact decodeInstr_jal hwf
  case beq | bne | blt | bge | bltu | bgeu => exact decodeInstr_wordB hwf rfl rfl fun _ => rfl
  case sb | sh | sw | sd => exact decodeInstr_wordS rfl rfl fun _ => rfl
  case slli | srli | srai => exact decodeInstr_wordShift64 rfl rfl fun _ => rfl
  case slliw | srliw | sraiw => exact decodeInstr_wordShift32 rfl rfl fun _ => rfl
  case fence => exact decodeInstr_fence
  case ecall => rfl
  case ebreak => rfl
  case jalr | lb | lh | lw | ld | lbu | lhu | lwu | addi | slti | sltiu | xori | ori | andi | addiw | fenceI | csrrw |
      csrrs | csrrc | csrrwi | csrrsi | csrrci => exact decodeInstr_wordI rfl rfl fun _ => rfl
  case add | sub | sll | slt | sltu | xor | srl | sra | or | and | mul | mulh | mulhsu | mulhu | div | divu | rem | remu |
      addw | subw | sllw | srlw | sraw | mulw | divw | divuw | remw | remuw => exact decodeInstr_wordR rfl rfl fun _ => rfl
  all_goals nomatch hlen


/-! ## Pseudo-instructions (30_encoding.md R111) -/

theorem Pseudo.expansion_standard (p : Pseudo) : ∀ i ∈ p.expansion, i.len = 4 := by
  cases p <;> simp [Pseudo.expansion, Instr.len]

/-- A pseudo-instruction is spelled as its expansion, whose forms are standard. -/
theorem Pseudo.spelledAs_expansion (p : Pseudo) : p.SpelledAs p.expansion :=
  ⟨rfl, fun i hi hwf => decodeInstr_encode_of_standard hwf (p.expansion_standard i hi)⟩

/-- The parts of an offset add up to it as integers, the rounding of `hi20` undoing the sign of `lo12`. -/
theorem hi20_add_lo12_toInt {off : BitVec 32} (h : off.toInt < 0x7FFFF800) :
    (hi20 off ++ 0#12 : BitVec 32).toInt + (lo12 off).toInt = off.toInt := by
  have hn := off.isLt
  have hhi : (hi20 off).toNat = (off.toNat + 2048) % 4294967296 / 4096 := by
    rw [hi20, BitVec.extractLsb'_toNat, BitVec.toNat_add, Nat.shiftRight_eq_div_pow]
    change (off.toNat + 2048) % 4294967296 / 4096 % 1048576 = _
    omega
  have hlo : (lo12 off).toNat = off.toNat % 4096 := by simp [lo12]
  rw [BitVec.toInt_append]
  simp only [BitVec.toInt_eq_toNat_cond, hhi, hlo] at h ⊢
  simp only [Nat.reduceBEq, Bool.false_eq_true, if_false, BitVec.toNat_ofNat]
  omega

theorem hi20_add_lo12 {off : BitVec 32} (h : off.toInt < 0x7FFFF800) :
    (hi20 off ++ 0#12 : BitVec 32).signExtend 64 + (lo12 off).signExtend 64 = off.signExtend 64 := by
  simp only [BitVec.signExtend, ← BitVec.ofInt_add, hi20_add_lo12_toInt h]

/-! ## The ranges of the immediates (30_encoding.md R70 to R75) -/

section
variable {n : Nat} (x : BitVec (n + 1)) (h : n + 1 ≤ 64)
include h

theorem le_toInt_signExtend : -2 ^ n ≤ (x.signExtend 64).toInt := by
  rw [BitVec.toInt_signExtend_of_le h]
  exact x.le_toInt

theorem toInt_signExtend_le : (x.signExtend 64).toInt ≤ 2 ^ n - 1 := by
  rw [BitVec.toInt_signExtend_of_le h]
  exact Int.le_sub_one_of_lt x.toInt_lt

end

/-- An offset above its implicit zero bit is even. -/
theorem toInt_signExtend_append_zero {n : Nat} (x : BitVec (n + 1)) (h : n + 2 ≤ 64) :
    ((x ++ 0#1).signExtend 64).toInt % 2 = 0 := by
  rw [BitVec.toInt_signExtend_of_le h, BitVec.toInt_append]
  simp

/-- An even number below an even bound is at most two below it. -/
theorem le_sub_two_of_even {a b : Int} (ha : a % 2 = 0) (hb : b % 2 = 0) (h : a ≤ b - 1) : a ≤ b - 2 := by omega

theorem toNat_immU (w : Word32) : (immU w).toNat = 4096 * (immU20 w).toNat := by
  have hlt : (immU20 w).toNat < 1048576 := (immU20 w).isLt
  rw [immU, BitVec.toNat_setWidth, BitVec.toNat_append, Nat.shiftLeft_eq, BitVec.toNat_ofNat, Nat.zero_mod, Nat.or_zero]
  omega

/-! ## Shifts as arithmetic on numbers, and the other results of the compressed forms -/

section
variable {n : Nat} (x : BitVec n) (k : Nat)

theorem ushiftRight_eq_ofNat_div : x >>> k = BitVec.ofNat n (x.toNat / 2 ^ k) := by
  rw [← Nat.shiftRight_eq_div_pow, ← BitVec.toNat_ushiftRight, BitVec.ofNat_toNat, BitVec.setWidth_eq]

theorem shiftLeft_eq_ofNat_mul : x <<< k = BitVec.ofNat n (x.toNat * 2 ^ k) := by
  rw [← Nat.shiftLeft_eq]
  rfl

theorem sshiftRight_eq_ofInt_div : x.sshiftRight k = BitVec.ofInt n (x.toInt / 2 ^ k) := by
  rw [BitVec.sshiftRight_eq, Int.shiftRight_eq_div_pow, Nat.cast_pow, Nat.cast_ofNat]

end

/-- The value C.LUI hands to LUI. -/
theorem sextU_immUOf_signExtend (n : BitVec 6) : sextU (immUOf (n.signExtend 20)) = n.signExtend 64 <<< 12 := by
  revert n
  decide

theorem toNat_popular (p : PopIdx) : (popular p).toNat = p.toNat + 8 := by
  revert p
  decide

section
variable {s t : State}

/-- A result for x0 changes the pc alone. -/
theorem RegEffect.pcEffect {v pc : Word} (h : RegEffect s t 0 v pc) : PcEffect s t pc := by
  obtain ⟨hregs, hpc, hmem, hsys, hmodel⟩ := h
  refine ⟨hpc, fun r => ?_, hmem, hsys, hmodel⟩
  rw [hregs]
  split_ifs with h0
  · rw [h0]
    exact s.reg_zero.symm
  · rfl

theorem Completes.mono {r : Result} {P Q : State → Prop} (h : Completes r P) (hPQ : ∀ t, P t → Q t) : Completes r Q := by
  obtain ⟨t, ht, hP⟩ := h
  exact ⟨t, ht, hPQ t hP⟩

/-- On the expand path a form that gives one result two bytes on has the effect of its value. -/
theorem onExpandPath_sets {parcel : Word32} {rd : RegIdx} {v v' : Word} (hpath : s.params.compressedPath = .expand)
    (hv : v = v') :
    Completes (s.onExpandPath parcel (s.regResult 2 rd v)) (fun t => RegEffect s t rd v' (s.pc + 2)) :=
  hv ▸ (s.regResult_completes 2 rd v).onExpandPath hpath

end

/-! ## The statements -/

/-- Settles O5, by running the decoder on each word of the table. -/
theorem boundaryWordsDecode : Obligations.BoundaryWordsDecode := by
  unfold Obligations.BoundaryWordsDecode
  decide

/-- Settles O6: an immediate of n bits, sign-extended, keeps the range of n bits, and an implicit zero bit makes it even. -/
theorem immediateValues : Obligations.ImmediateValues := by
  intro w
  have hB : (immB w).toInt % 2 = 0 := toInt_signExtend_append_zero _ (by decide)
  have hJ : (immJ w).toInt % 2 = 0 := toInt_signExtend_append_zero _ (by decide)
  have hlt : (immU20 w).toNat < 1048576 := (immU20 w).isLt
  refine ⟨⟨rfl, le_toInt_signExtend (immI12 w) (by decide), toInt_signExtend_le (immI12 w) (by decide), fun h => ?_,
      fun h => ?_⟩,
    ⟨rfl, le_toInt_signExtend (immS12 w) (by decide), toInt_signExtend_le (immS12 w) (by decide)⟩,
    ⟨rfl, le_toInt_signExtend (immB13 w) (by decide), ?_, hB⟩,
    ⟨rfl, le_toInt_signExtend (immJ21 w) (by decide), ?_, hJ⟩, rfl, ?_, ?_⟩
  · rw [immI, immI12, h]; rfl
  · rw [immI, immI12, h]; rfl
  · exact le_sub_two_of_even hB rfl (toInt_signExtend_le (immB13 w) (by decide))
  · exact le_sub_two_of_even hJ rfl (toInt_signExtend_le (immJ21 w) (by decide))
  · rw [toNat_immU]; omega
  · rw [toNat_immU]; omega

/-- Settles O25: every row's expansion is of standard forms, which the decoder reads back (`Pseudo.spelledAs_expansion`), and
the parts of an offset add up to it (`hi20_add_lo12`). -/
theorem pseudoInstructionsDecode : Obligations.PseudoInstructionsDecode := by
  have row := Pseudo.spelledAs_expansion
  exact ⟨row _, fun _ _ => row _, fun _ _ => row _, fun _ _ => row _, fun _ _ => row _, fun _ _ => row _, fun _ _ => row _,
    fun _ _ => row _, fun _ _ => row _, fun _ _ => row _, fun _ _ => row _, fun _ _ => row _, fun _ _ => row _,
    fun _ _ => row _, fun _ _ => row _, fun _ _ => row _, fun _ _ => row _, fun _ _ _ => row _, fun _ _ _ => row _,
    fun _ _ _ => row _, fun _ _ _ => row _, fun _ => row _, fun _ => row _, fun _ => row _, fun _ => row _, row _,
    fun _ => row _, fun _ => row _, fun _ _ => row _, row _, fun _ _ => row _, fun _ _ => row _, fun _ _ => row _,
    fun _ _ => row _, fun _ _ => row _, fun _ _ => row _, fun _ _ => row _, fun _ => row _, fun _ => row _,
    fun _ => row _, by decide, by decide, by decide, fun _ h => hi20_add_lo12 h⟩

/-- Settles O56: each form is one result of length 2 (`onExpandPath_sets`), whose value is the stated one. -/
theorem compressedArithmetic : Obligations.CompressedArithmetic :=
  ⟨fun _ _ _ h => onExpandPath_sets h rfl,
    fun _ h => (onExpandPath_sets h rfl).mono fun _ => RegEffect.pcEffect,
    fun _ _ _ h => onExpandPath_sets h rfl,
    fun _ _ _ h => onExpandPath_sets h rfl,
    fun _ _ n h => onExpandPath_sets h (BitVec.zero_add (simm n)),
    fun _ _ h => onExpandPath_sets h rfl,
    fun _ _ n h => onExpandPath_sets h (sextU_immUOf_signExtend n),
    fun _ _ _ h => onExpandPath_sets h (ushiftRight_eq_ofNat_div _ _),
    fun _ _ _ h => onExpandPath_sets h (sshiftRight_eq_ofInt_div _ _),
    fun _ _ _ h => onExpandPath_sets h rfl,
    fun _ _ _ h => onExpandPath_sets h rfl,
    fun _ _ _ h => onExpandPath_sets h rfl,
    fun _ _ _ h => onExpandPath_sets h rfl,
    fun _ _ _ h => onExpandPath_sets h rfl,
    fun _ _ _ h => onExpandPath_sets h rfl,
    fun _ _ _ h => onExpandPath_sets h rfl,
    fun _ _ _ h => onExpandPath_sets h (shiftLeft_eq_ofNat_mul _ _),
    fun s _ rs2 h => onExpandPath_sets h (BitVec.zero_add (s.reg rs2)),
    fun _ _ _ h => onExpandPath_sets h rfl,
    toNat_popular⟩

end Sys2Proof.Machine
end

section
/-! SUPPORT. Statements O7, O9, O10, O12 to O16 and O29: the decoders and what each of them accepts (40_dispatch.md), the tags of
the variants, and the output ports. The standard decoder accepts the all-zero word and a word that matches a row, and no other;
a compressed path accepts the all-zero parcel and a parcel it turns into its expansion. -/

namespace Sys2Proof.Machine

/-! ## The rows of the table (40_dispatch.md R127, R128) -/

/-- The variants over a word, in the order of R127's table: the all-zero word's, then those of the standard rows. -/
def variantBuilders : List (Word32 → Instruction) := (.illegal ⟨·⟩) :: standardRows.map Row.build

theorem variantBuilders_length : variantBuilders.length = 73 := rfl

theorem variantBuilders_tag (w : Word32) : variantBuilders.map (fun b => (b w).tag.toNat) = List.range 73 := rfl

theorem variantBuilders_word (w : Word32) : variantBuilders.map (fun b => (b w).word) = variantBuilders.map fun _ => w := rfl

/-- A variant is the one its tag numbers, over its own word. -/
theorem variantBuilders_getElem?_tag (v : Instruction) :
    variantBuilders[v.tag.toNat]?.map (fun b => b v.word) = some v := by cases v <;> rfl

theorem Instruction.eq_of_tag_eq_of_word_eq {v v' : Instruction} (htag : v.tag = v'.tag) (hword : v.word = v'.word) :
    v = v' := by
  apply Option.some.inj
  rw [← variantBuilders_getElem?_tag v, htag, hword, variantBuilders_getElem?_tag v']

theorem Instruction.tag_toNat_lt (v : Instruction) : v.tag.toNat < 73 := by
  obtain ⟨b, hb, _⟩ := Option.map_eq_some_iff.mp (variantBuilders_getElem?_tag v)
  obtain ⟨hlt, _⟩ := List.getElem?_eq_some_iff.mp hb
  rwa [variantBuilders_length] at hlt

theorem Instruction.exists_tag_word {n : Nat} (hn : n < 73) (w : Word32) :
    ∃ v : Instruction, v.tag.toNat = n ∧ v.word = w := by
  have hlt : n < variantBuilders.length := by rwa [variantBuilders_length]
  have htag : (variantBuilders.map (fun b => (b w).tag.toNat))[n]? = some n := by
    rw [variantBuilders_tag, List.getElem?_range hn]
  refine ⟨variantBuilders[n] w, ?_, List.map_inj_left.mp (variantBuilders_word w) _ (List.getElem_mem hlt)⟩
  simpa [List.getElem?_eq_getElem hlt] using htag

section
variable {r : Row} (hr : r ∈ standardRows) (w w' : Word32)
include hr

theorem build_mem_variantBuilders : r.build ∈ variantBuilders := List.mem_cons_of_mem _ (List.mem_map_of_mem hr)

theorem word_build : (r.build w).word = w :=
  List.map_inj_left.mp (variantBuilders_word w) _ (build_mem_variantBuilders hr)

/-- The row decides the tag, whatever the word. -/
theorem tag_build_congr : (r.build w).tag = (r.build w').tag :=
  BitVec.eq_of_toNat_eq (List.map_inj_left.mp ((variantBuilders_tag w).trans (variantBuilders_tag w').symm) _
    (build_mem_variantBuilders hr))

end

/-! ## The steps of the standard decoder (40_dispatch.md R123) -/

section
variable {w : Word32} {v : Instruction}

theorem decode32_of_not_standard (hzero : w ≠ 0#32) (hlow : w.extractLsb' 0 2 ≠ 0b11#2) : decode32 w = .error .illegal := by
  have hones : w ≠ 0xFFFFFFFF#32 := by rintro rfl; exact hlow rfl
  simp [decode32, hzero, hones, hlow]

/-- Past its first four steps the decoder looks the word up in the table. -/
theorem decode32_eq_decodeRows (hlow : w.extractLsb' 0 2 = 0b11#2) (hlong : w.extractLsb' 2 3 ≠ 0b111#3) :
    decode32 w = decodeRows w := by
  have hzero : w ≠ 0#32 := by rintro rfl; exact absurd hlow (by decide)
  have hones : w ≠ 0xFFFFFFFF#32 := by rintro rfl; exact hlong rfl
  simp [decode32, hzero, hones, hlow, hlong]

theorem inPrivilegedSpace_iff : inPrivilegedSpace w = true ↔
    opcode w = 0b1110011#7 ∧ (funct3 w = 0b000#3 ∨ funct3 w = 0b100#3) := by
  simp [inPrivilegedSpace]

/-- Steps 6 to 8. -/
theorem decodeRows_of_noRow (hnone : ∀ r ∈ standardRows, w &&& r.mask ≠ r.pattern) :
    decodeRows w =
      if opcode w ∈ unimplementedOpcodes then .error .unimplemented
      else if opcode w = 0b1110011#7 ∧ (funct3 w = 0b000#3 ∨ funct3 w = 0b100#3) then .error .unimplemented
      else .error .illegal := by
  have hfind : standardRows.find? (fun r => r.matches w) = none :=
    List.find?_eq_none.mpr fun r hr hm => hnone r hr (Row.matches_iff.mp hm)
  simp only [decodeRows, hfind, List.contains_iff_mem, inPrivilegedSpace_iff]

/-- What `decode32` accepts: the all-zero word, and a word that matches a row, as that row's variant. -/
theorem decode32_ok_cases (h : decode32 w = .ok v) :
    (w = 0 ∧ v = .illegal ⟨w⟩) ∨ ∃ r ∈ standardRows, w &&& r.mask = r.pattern ∧ v = r.build w := by
  by_cases hzero : w = 0
  · subst hzero
    exact .inl ⟨rfl, (Except.ok.inj h).symm⟩
  by_cases hlow : w.extractLsb' 0 2 = 0b11#2
  · by_cases hlong : w.extractLsb' 2 3 = 0b111#3
    · rw [decode32_of_longSpace hlow hlong] at h
      nomatch h
    · by_cases hrow : ∃ r ∈ standardRows, w &&& r.mask = r.pattern
      · obtain ⟨r, hr, hw⟩ := hrow
        rw [decode32_of_row hr w hw] at h
        exact .inr ⟨r, hr, hw, (Except.ok.inj h).symm⟩
      · rw [decode32_eq_decodeRows hlow hlong, decodeRows_of_noRow (by simpa using hrow)] at h
        split_ifs at h
  · rw [decode32_of_not_standard hzero hlow] at h
    nomatch h

theorem word_of_decode32 (h : decode32 w = .ok v) : v.word = w := by
  obtain ⟨_, rfl⟩ | ⟨r, hr, _, rfl⟩ := decode32_ok_cases h
  · rfl
  · exact word_build hr w

/-! ## The privileged space (40_dispatch.md R126) -/

/-- Under SYSTEM the rows are ECALL and EBREAK, which fix the whole word, and those of the other six funct3. -/
theorem standardRows_system : ∀ r ∈ standardRows, opcode r.pattern = 0b1110011#7 →
    (r.mask = BitVec.allOnes 32 ∧ (r.pattern = 0x00000073#32 ∨ r.pattern = 0x00100073#32)) ∨
      (funct3 r.mask = BitVec.allOnes 3 ∧ funct3 r.pattern ≠ 0b000#3 ∧ funct3 r.pattern ≠ 0b100#3) := by decide

theorem decode32_of_privilegedSpace (hop : opcode w = 0b1110011#7) (hf3 : funct3 w = 0b000#3 ∨ funct3 w = 0b100#3)
    (hecall : w ≠ 0x00000073#32) (hebreak : w ≠ 0x00100073#32) : decode32 w = .error .unimplemented := by
  have hnone : ∀ r ∈ standardRows, w &&& r.mask ≠ r.pattern := by
    intro r hr hw
    obtain ⟨hmask, hpat⟩ | ⟨hmask, h0, h4⟩ := standardRows_system r hr ((opcode_of_row hr hw).symm.trans hop)
    · rw [hmask, BitVec.and_allOnes] at hw
      rw [← hw] at hpat
      exact hpat.elim hecall hebreak
    · have hpat : funct3 w = funct3 r.pattern := by
        rw [← hw, funct3, funct3, BitVec.extractLsb'_and]
        exact (hmask ▸ BitVec.and_allOnes).symm
      rw [← hpat] at h0 h4
      exact hf3.elim h0 h4
  have hlow : w.extractLsb' 0 2 = 0b11#2 := by simpa [opcode] using congrArg (·.extractLsb' 0 2) hop
  have hlong : w.extractLsb' 2 3 ≠ 0b111#3 := by
    have : w.extractLsb' 2 3 = 0b100#3 := by simpa [opcode] using congrArg (·.extractLsb' 2 3) hop
    rw [this]
    decide
  rw [decode32_eq_decodeRows hlow hlong, decodeRows_of_noRow hnone, if_pos (c := _ ∧ _) ⟨hop, hf3⟩, ite_self]

end

/-! ## The register fields (40_dispatch.md R131) -/

/-- But for ECALL and EBREAK, which fix the whole word, no row's mask touches rd, rs1 or rs2. -/
theorem standardRows_mask_regFields : ∀ r ∈ standardRows, (r.build 0).tag ≠ 65 → (r.build 0).tag ≠ 66 →
    ~~~0x01FF8F80#32 &&& r.mask = r.mask := by decide

/-! ## What a compressed path accepts (40_dispatch.md R121) -/

section
variable {h : Half} {v : Instruction}

theorem decodeExpand_ok_cases (hv : decodeExpand h = .ok v) :
    (h = 0 ∧ v = .illegal ⟨0⟩) ∨ (expand h ≠ sentinel ∧ decode32 (expand h) = .ok v) := by
  unfold decodeExpand at hv
  split_ifs at hv with hzero hexp
  · exact .inl ⟨beq_iff_eq.mp hzero, (Except.ok.inj hv).symm⟩
  · exact .inr ⟨bne_iff_ne.mp hexp, hv⟩
  · split at hv <;> nomatch hv

theorem cdecode_ok_cases (hv : cdecode h = .ok v) :
    (h = 0 ∧ v = .illegal ⟨0⟩) ∨ (quadrant h = 0b00#2 ∧
      ((cfunct3 h = 0b010#3 ∧ v = .lw ⟨placeLw h⟩) ∨ (cfunct3 h = 0b011#3 ∧ v = .ld ⟨placeLd h⟩) ∨
        (cfunct3 h = 0b110#3 ∧ v = .sw ⟨placeSw h⟩) ∨ (cfunct3 h = 0b111#3 ∧ v = .sd ⟨placeSd h⟩))) := by
  unfold cdecode at hv
  split_ifs at hv with hzero hq
  · exact .inl ⟨beq_iff_eq.mp hzero, (Except.ok.inj hv).symm⟩
  · refine .inr ⟨by simpa using hq, ?_⟩
    split at hv
    case h_1 hf => exact .inl ⟨hf, (Except.ok.inj hv).symm⟩
    case h_2 hf => exact .inr (.inl ⟨hf, (Except.ok.inj hv).symm⟩)
    case h_3 hf => exact .inr (.inr (.inl ⟨hf, (Except.ok.inj hv).symm⟩))
    case h_4 hf => exact .inr (.inr (.inr ⟨hf, (Except.ok.inj hv).symm⟩))
    case h_5 => nomatch hv

theorem popular_eq_placedReg (r : PopIdx) : popular r = placedReg r := by
  revert r
  decide

/-- The quadrant decoder places each bit where the expansion has it (47_compressed_decoder.md R282 to R285). -/
theorem expansion_eq_placed (h : Half) :
    Form.cLw.expansion h = placeLw h ∧ Form.cLd.expansion h = placeLd h ∧ Form.cSw.expansion h = placeSw h ∧
      Form.cSd.expansion h = placeSd h := by
  refine ⟨?_, ?_, ?_, ?_⟩ <;>
  · apply BitVec.eq_of_getLsbD_eq
    intro i hi
    simp only [Form.expansion, wordI, wordS, cImmLw, cImmLd, popular_eq_placedReg, placeLw, placeLd, placeSw, placeSd,
      BitVec.getLsbD_append, BitVec.getLsbD_extractLsb', BitVec.getLsbD_setWidth]
    interval_cases i <;> simp

/-- In quadrant 0 a parcel of a legal form expands as that form; the all-zero parcel has none. -/
theorem expand_of_classifyQ0 {f : Form} (hq : quadrant h = 0b00#2) (hc : classifyQ0 h = (.legal, f)) :
    expand h = f.expansion h := by
  have hzero : h ≠ 0#16 := by rintro rfl; nomatch hc
  simp [expand, classify16, hzero, hq, hc]

theorem word_of_cdecode (hv : cdecode h = .ok v) (htag : v.tag ≠ 0) : v.word = expand h := by
  obtain ⟨hlw, hld, hsw, hsd⟩ := expansion_eq_placed h
  obtain ⟨_, rfl⟩ | ⟨hq, ⟨hf, rfl⟩ | ⟨hf, rfl⟩ | ⟨hf, rfl⟩ | ⟨hf, rfl⟩⟩ := cdecode_ok_cases hv
  · exact absurd rfl htag
  · exact hlw.symm.trans (expand_of_classifyQ0 hq (by simp [classifyQ0, hf])).symm
  · exact hld.symm.trans (expand_of_classifyQ0 hq (by simp [classifyQ0, hf])).symm
  · exact hsw.symm.trans (expand_of_classifyQ0 hq (by simp [classifyQ0, hf])).symm
  · exact hsd.symm.trans (expand_of_classifyQ0 hq (by simp [classifyQ0, hf])).symm

/-- Either path turns a parcel it accepts, other than 0, into the parcel's expansion (40_dispatch.md R132). -/
theorem word_of_decodeHalfOn {path : CompressedPath} (hv : decodeHalfOn path h = .ok v) (htag : v.tag ≠ 0) :
    v.word = expand h := by
  cases path
  case quadrant => exact word_of_cdecode hv htag
  case expand =>
    obtain ⟨_, rfl⟩ | ⟨_, hv⟩ := decodeExpand_ok_cases hv
    · exact absurd rfl htag
    · exact word_of_decode32 hv

end

/-! ## The output ports (40_dispatch.md R129) -/

section
variable (out : DecodeOutcome) (len : Nat) (expOut : Word32) (cls16 : BitVec 3)

@[simp] theorem Ports.ofOutcome_len : (Ports.ofOutcome out len expOut cls16).len = BitVec.ofNat 3 len := by cases out <;> rfl

@[simp] theorem Ports.ofOutcome_expOut : (Ports.ofOutcome out len expOut cls16).expOut = expOut := by cases out <;> rfl

@[simp] theorem Ports.ofOutcome_cls16 : (Ports.ofOutcome out len expOut cls16).cls16 = cls16 := by cases out <;> rfl

end

section
variable {fetch : Word32} {path : CompressedPath} {h : Half}

theorem ports_of_ok {v : Instruction} (hv : (decode fetch path).1 = .ok v) :
    (ports fetch path h).ok = 1 ∧ (ports fetch path h).err = 0 ∧ (ports fetch path h).tag = v.tag ∧
      (ports fetch path h).word = v.word := by
  rw [ports, hv]
  exact ⟨rfl, rfl, rfl, rfl⟩

theorem ports_shows {v : Instruction} (hv : (decode fetch path).1 = .ok v) : (ports fetch path h).Shows v.fields := by
  rw [ports, hv]
  exact ⟨rfl, rfl, rfl, rfl, rfl, rfl, rfl, rfl, rfl, rfl⟩

/-- The variants of one carrier show the same accessors of it. -/
theorem ports_shows_of_fields {C : Type} {c : C} {l : List (C → Instruction)} {f : Fields}
    (hf : l.map (fun v => (v c).fields) = l.map fun _ => f) :
    ∀ v ∈ l, (decode fetch path).1 = .ok (v c) → (ports fetch path h).Shows f :=
  fun v hv hok => List.map_inj_left.mp hf v hv ▸ ports_shows hok

theorem ports_of_error {e : DecodingError} (he : (decode fetch path).1 = .error e) :
    ports fetch path h =
      { len := (ports fetch path h).len, ok := 0, err := if e = .illegal then 1 else 0, tag := 0, word := 0, rd := 0,
        rs1 := 0, rs2 := 0, imm := 0, shamt := 0, pred := 0, succ := 0, fm := 0, csr := 0, zimm := 0,
        expOut := expand h, cls16 := (classify16 (lowHalf fetch)).1.code } := by
  rw [ports, he]
  cases e <;> rfl

theorem decode_length : (decode fetch path).2 = if fetch.extractLsb' 0 2 = 0b11#2 then 4 else 2 := by
  split_ifs with hlow
  · rw [decode_of_standard hlow]
  · rw [decode_of_compressed hlow]

theorem ports_len : (ports fetch path h).len = if fetch.extractLsb' 0 2 = 0b11#2 then 4#3 else 2#3 := by
  rw [ports, Ports.ofOutcome_len, decode_length]
  split_ifs <;> rfl

end

/-! ## The statements -/

/-- Settles O7: one lemma per step of the decoder. -/
theorem standardDecoderSteps : Obligations.StandardDecoderSteps := by
  refine fun w => ⟨?_, ?_, decode32_of_not_standard, fun hones hlow hlong => ?_, fun r hr => decode32_of_row hr w,
    fun hlow hlong hnone => ?_⟩
  · rintro rfl; rfl
  · rintro rfl; rfl
  · rw [decode32_of_longSpace hlow hlong, if_neg hones]
  · rw [decode32_eq_decodeRows hlow hlong, decodeRows_of_noRow hnone]
    rfl

/-- Settles O10: no row but those of ECALL and EBREAK has funct3 000 or 100 under SYSTEM (`decode32_of_privilegedSpace`). -/
theorem privilegedSpaceIsUnimplemented : Obligations.PrivilegedSpaceIsUnimplemented := by
  refine ⟨fun w hop hf3 => decode32_of_privilegedSpace hop (.inl hf3), fun w hop hf3 => ?_, by decide, by decide, by decide⟩
  refine decode32_of_privilegedSpace hop (.inr hf3) ?_ ?_ <;>
  · rintro rfl
    exact absurd hf3 (by decide)

/-- Settles O12: an accepted word matches a row, and the rows concerned do not look at the register fields
(`standardRows_mask_regFields`). -/
theorem namingX0NeverRejects : Obligations.NamingX0NeverRejects := by
  refine ⟨fun w w' v hv hillegal hecall hebreak hsame => ?_, decode32_of_row (List.mem_of_getElem? (i := 21) rfl),
    decode32_of_row (List.mem_of_getElem? (i := 62) rfl), by decide, by decide⟩
  obtain ⟨_, rfl⟩ | ⟨r, hr, hw, rfl⟩ := decode32_ok_cases hv
  · exact absurd rfl hillegal
  rw [tag_build_congr hr w 0] at hecall hebreak
  have hmask := standardRows_mask_regFields r hr hecall hebreak
  have hw' : w' &&& r.mask = r.pattern := by
    rw [← hw, ← hmask, ← BitVec.and_assoc, ← BitVec.and_assoc, hsame]
  exact ⟨r.build w', decode32_of_row hr w' hw', tag_build_congr hr w' w⟩

/-- Settles O13: what each decoder accepts holds the word it read (`word_of_decode32`, `word_of_decodeHalfOn`). -/
theorem carrierHoldsTheWord : Obligations.CarrierHoldsTheWord := by
  refine ⟨fun w v => word_of_decode32, fun fetch path v n hv htag => ⟨fun hlow => ?_, fun hlow => ?_⟩, fun path => ?_⟩
  · rw [decode_of_standard hlow] at hv
    obtain ⟨hout, rfl⟩ := Prod.mk.inj hv
    exact ⟨word_of_decode32 hout, rfl⟩
  · rw [decode_of_compressed hlow] at hv
    obtain ⟨hout, rfl⟩ := Prod.mk.inj hv
    exact ⟨word_of_decodeHalfOn hout htag, rfl⟩
  · cases path <;> decide

/-- Settles O14: the sentinel is the all-ones word, an error; and the expand path accepts a parcel other than 0 only where its
expansion is not the sentinel (`decodeExpand_ok_cases`). -/
theorem sentinelYieldsNoInstruction : Obligations.SentinelYieldsNoInstruction := by
  refine ⟨rfl, fun h v hexp => ?_, fun fetch v hlow hzero hexp hv => ?_⟩
  · rw [hexp]
    nofun
  · rw [decode_of_compressed hlow] at hv
    obtain ⟨h0, _⟩ | ⟨hne, _⟩ := decodeExpand_ok_cases hv
    · exact hzero h0
    · exact hne hexp

/-- Settles O15: the table row by row, and the variants as the list of their builders, in the order of their tags. -/
theorem tagsNameTheVariants : Obligations.TagsNameTheVariants :=
  ⟨fun _ => rfl, fun _ => rfl, fun _ => rfl, fun _ => rfl, fun _ => rfl, fun _ => rfl, fun _ => rfl, fun _ => rfl,
    fun _ => rfl, fun _ => rfl, fun _ => rfl, Instruction.tag_toNat_lt, fun _ => Instruction.exists_tag_word,
    fun _ _ => Instruction.eq_of_tag_eq_of_word_eq⟩

/-- Settles O16: the ports of either outcome, and for each carrier the accessors its variants show. -/
theorem portsFollowTheOutcome : Obligations.PortsFollowTheOutcome := fun _ _ _ =>
  ⟨fun _ => ports_of_ok, fun _ => ports_shows_of_fields rfl, fun _ => ports_shows_of_fields rfl,
    fun _ => ports_shows_of_fields rfl, fun _ => ports_shows_of_fields rfl, fun _ => ports_shows_of_fields rfl,
    fun _ => ports_shows_of_fields rfl, fun _ => ports_shows_of_fields rfl, fun _ => ports_shows_of_fields rfl,
    fun _ => ports_shows_of_fields rfl, fun _ => ports_shows_of_fields rfl, fun _ => ports_shows_of_fields rfl,
    fun _ => ports_of_error, ports_len, Ports.ofOutcome_expOut _ _ _ _, Ports.ofOutcome_cls16 _ _ _ _⟩

/-- Settles O9: both compressed paths decide the all-zero parcel first. -/
theorem allZeroIsTheIllegalVariant : Obligations.AllZeroIsTheIllegalVariant := by
  refine ⟨rfl, fun fetch path (hzero : lowHalf fetch = 0) => ?_, by decide⟩
  have hlow : fetch.extractLsb' 0 2 ≠ 0b11#2 := by
    rw [← lowTwo_lowHalf, hzero]
    decide
  rw [decode_of_compressed hlow, hzero]
  cases path <;> rfl

/-- Settles O29: at an even pc a step is the arm of the decoded form. -/
theorem stepRunsTheDecodedInstruction : Obligations.StepRunsTheDecodedInstruction := by
  intro s i heven hi
  have hpc : s.pcMisaligned = false := by rw [State.pcMisaligned, heven]; rfl
  simp only [step, hpc, hi, Bool.false_eq_true, if_false]

end Sys2Proof.Machine
end

section
/-! SUPPORT. Statements O4, O40 and O41: upper immediates, jumps and branches (41_upper_jump_branch.md). The meaning of each
form is one result, one link or one branch of length 4, so what `regResult`, `link` and `branch` do is what it does. -/

namespace Sys2Proof.Machine

/-! ## The values: the upper immediate, and the two orders of the branch conditions -/

/-- The executor of LUI and AUIPC undoes the zero-extension of imm_U before it sign-extends (30_encoding.md R74). -/
theorem sextU_immUOf (imm : BitVec 20) : sextU (immUOf imm) = (imm ++ 0#12 : BitVec 32).signExtend 64 := by
  rw [sextU, immUOf, BitVec.zeroExtend_eq_setWidth, BitVec.extractLsb'_setWidth_of_le (by decide),
    BitVec.extractLsb'_eq_self]

section
variable {a b : Word}

theorem ltSigned_iff : ltSigned a b = true ↔ a.toInt < b.toInt := decide_eq_true_iff

theorem not_ltSigned_iff : (!ltSigned a b) = true ↔ a.toInt ≥ b.toInt := by
  rw [Bool.not_eq_true', ← Bool.not_eq_true, ltSigned_iff, not_lt]

theorem ltUnsigned_iff : ltUnsigned a b = true ↔ a.toNat < b.toNat := decide_eq_true_iff

theorem not_ltUnsigned_iff : (!ltUnsigned a b) = true ↔ a.toNat ≥ b.toNat := by
  rw [Bool.not_eq_true', ← Bool.not_eq_true, ltUnsigned_iff, not_lt]

end

/-! ## The three shapes of a standard form's answer (10_state.md R26; R152, R153, R161) -/

section
variable {i : Instr} {s : State}

theorem execSets_of_regResult {rd : RegIdx} {v : Word} (hexec : exec i s = s.regResult 4 rd v) :
    ExecSets i s rd v (s.pc + 4) := by
  rw [ExecSets, hexec]
  exact s.regResult_completes 4 rd v

theorem execSets_of_link {rd : RegIdx} {target : Word} (hexec : exec i s = s.link 4 rd target) :
    ExecSets i s rd (s.pc + 4) target := by
  rw [ExecSets, hexec]
  exact s.link_completes 4 rd target

theorem execGoes_of_branch {taken : Bool} {cond : Prop} [Decidable cond] {imm : Word}
    (hexec : exec i s = s.branch 4 taken imm) (hcond : taken = true ↔ cond) :
    ExecGoes i s (if cond then s.pc + imm else s.pc + 4) := by
  rw [ExecGoes, hexec]
  simp only [← hcond]
  exact s.branch_completes 4 taken imm

end

/-! ## The statements -/

/-- Settles O40: two results and two links, the links' target read from the state before rd is written. -/
theorem upperImmediateAndJumpResults : Obligations.UpperImmediateAndJumpResults := by
  refine ⟨fun s rd imm => ?lui, fun s rd imm => ?auipc, fun s rd imm => ?jal, fun s rd rs1 imm => ?jalr⟩
  case lui =>
    rw [← sextU_immUOf]
    exact execSets_of_regResult (exec_lui s rd imm)
  case auipc =>
    rw [← sextU_immUOf]
    exact execSets_of_regResult (exec_auipc s rd imm)
  case jal => exact execSets_of_link (exec_jal s rd imm)
  case jalr => exact execSets_of_link (exec_jalr s rd rs1 imm)

/-- Settles O41: a row of the table for the words (`decode32_of_row`), a run of the decoder for the example, and the
condition the branch computes (`execGoes_of_branch`). -/
theorem branchForms : Obligations.BranchForms :=
  ⟨⟨decode32_of_row (List.mem_of_getElem? (i := 4) rfl), by decide,
      fun s rs1 rs2 imm => execGoes_of_branch (exec_beq s rs1 rs2 imm) beq_iff_eq⟩,
    ⟨decode32_of_row (List.mem_of_getElem? (i := 5) rfl), by decide,
      fun s rs1 rs2 imm => execGoes_of_branch (exec_bne s rs1 rs2 imm) bne_iff_ne⟩,
    ⟨decode32_of_row (List.mem_of_getElem? (i := 6) rfl), by decide,
      fun s rs1 rs2 imm => execGoes_of_branch (exec_blt s rs1 rs2 imm) ltSigned_iff⟩,
    ⟨decode32_of_row (List.mem_of_getElem? (i := 7) rfl), by decide,
      fun s rs1 rs2 imm => execGoes_of_branch (exec_bge s rs1 rs2 imm) not_ltSigned_iff⟩,
    ⟨decode32_of_row (List.mem_of_getElem? (i := 8) rfl), by decide,
      fun s rs1 rs2 imm => execGoes_of_branch (exec_bltu s rs1 rs2 imm) ltUnsigned_iff⟩,
    ⟨decode32_of_row (List.mem_of_getElem? (i := 9) rfl), by decide,
      fun s rs1 rs2 imm => execGoes_of_branch (exec_bgeu s rs1 rs2 imm) not_ltUnsigned_iff⟩⟩

/-- Settles O4, by running the decoder on each of the ten words. -/
theorem specWordsDecode : Obligations.SpecWordsDecode := by
  unfold Obligations.SpecWordsDecode
  decide

end Sys2Proof.Machine
end

section
/-! SUPPORT. Statements O42, O43 and O44: loads and stores (42_load_store.md). Each form is one load or one store of its width,
so it completes where the access is allowed and takes the misaligned exception where it is not. -/

namespace Sys2Proof.Machine

/-! ## The answers of a form that is one load or one store (42_load_store.md R181 to R183) -/

section
variable {i : Instr} {s : State} {len n : Nat} {ext : BitVec (8 * n) → Word} {rd rs1 rs2 : RegIdx} {imm : Word}

/-- A load writes the bytes it read, extended. -/
theorem execSets_of_load (hexec : exec i s = s.load 4 n ext rd rs1 imm)
    (haccess : s.misalignedTraps (s.effAddr rs1 imm) n = false) {bytes : BitVec (8 * n)}
    (hread : s.mem.read (s.effAddr rs1 imm) n = bytes) : ExecSets i s rd (ext bytes) (s.pc + 4) := by
  rw [ExecSets, hexec, ← hread]
  exact s.load_completes 4 n ext rd rs1 imm haccess

theorem execStores_of_store (hexec : exec i s = s.store 4 n rs1 rs2 imm) (hn : n ≤ 2 ^ 64) (hwf : s.mem.wf = true)
    (haccess : s.misalignedTraps (s.effAddr rs1 imm) n = false) :
    ExecStores i s (s.effAddr rs1 imm) n ((s.reg rs2).extractLsb' 0 (8 * n)) (s.pc + 4) := by
  rw [ExecStores, hexec]
  exact s.store_completes hwf 4 hn rs1 rs2 imm haccess

/-- At any length, so for the compressed forms as well. -/
theorem execTrapsSomehow_of_load (hexec : exec i s = s.load len n ext rd rs1 imm)
    (haccess : AccessTraps s (s.effAddr rs1 imm) n) : ExecTrapsSomehow i s 4 := by
  refine ⟨Config.freeTval s.draws, ?_⟩
  rw [ExecTraps, hexec]
  exact s.load_traps len n ext rd rs1 imm (s.misalignedTraps_of_traps haccess)

theorem execTrapsSomehow_of_store (hexec : exec i s = s.store len n rs1 rs2 imm)
    (haccess : AccessTraps s (s.effAddr rs1 imm) n) : ExecTrapsSomehow i s 6 := by
  refine ⟨Config.freeTval s.draws, ?_⟩
  rw [ExecTraps, hexec]
  exact s.store_traps len n rs1 rs2 imm (s.misalignedTraps_of_traps haccess)

end

/-! ## The statements -/

/-- Settles O42: each form is one load (`execSets_of_load`), and the bytes read are those the statement names
(`Memory.read_one`, `Memory.read_two`, `Memory.read_four`); a byte access is never misaligned. -/
theorem loadResults : Obligations.LoadResults := by
  refine ⟨fun s rd rs1 imm => ?lb, fun s rd rs1 imm h => ?lh, fun s rd rs1 imm h => ?lw, fun s rd rs1 imm h => ?ld,
    fun s rd rs1 imm => ?lbu, fun s rd rs1 imm h => ?lhu, fun s rd rs1 imm h => ?lwu⟩
  case lb => exact execSets_of_load (exec_lb s rd rs1 imm) (s.misalignedTraps_byte _) (Memory.read_one _ _)
  case lh => exact execSets_of_load (exec_lh s rd rs1 imm) (s.misalignedTraps_of_allowed h) (Memory.read_two _ _)
  case lw => exact runLw_completes h 4 rd
  case ld => exact runLd_completes h 4 rd
  case lbu => exact execSets_of_load (exec_lbu s rd rs1 imm) (s.misalignedTraps_byte _) (Memory.read_one _ _)
  case lhu => exact execSets_of_load (exec_lhu s rd rs1 imm) (s.misalignedTraps_of_allowed h) (Memory.read_two _ _)
  case lwu => exact execSets_of_load (exec_lwu s rd rs1 imm) (s.misalignedTraps_of_allowed h) (Memory.read_four _ _)

/-- Settles O43: each form is one store (`execStores_of_store`); a byte access is never misaligned. -/
theorem storeEffects : Obligations.StoreEffects := by
  refine ⟨fun s rs1 imm => rfl, fun s rs1 rs2 imm hwf => ?sb, fun s rs1 rs2 imm hwf h => ?sh,
    fun s rs1 rs2 imm hwf h => ?sw, fun s rs1 rs2 imm hwf h => ?sd⟩
  case sb => exact execStores_of_store (exec_sb s rs1 rs2 imm) (by norm_num) hwf (s.misalignedTraps_byte _)
  case sh => exact execStores_of_store (exec_sh s rs1 rs2 imm) (by norm_num) hwf (s.misalignedTraps_of_allowed h)
  case sw => exact runSw_completes hwf h 4 rs2
  case sd => exact runSd_completes hwf h 4 rs2

/-- Settles O44: each form is one load or one store, those that name sp on the expand path alone, and a misaligned one of
them traps (`execTrapsSomehow_of_load`, `execTrapsSomehow_of_store`). -/
theorem misalignedAccessesTrap : Obligations.MisalignedAccessesTrap :=
  ⟨fun s rd rs1 imm => execTrapsSomehow_of_load (exec_lh s rd rs1 imm),
    fun s rd rs1 imm => execTrapsSomehow_of_load (exec_lw s rd rs1 imm),
    fun s rd rs1 imm => execTrapsSomehow_of_load (exec_ld s rd rs1 imm),
    fun s rd rs1 imm => execTrapsSomehow_of_load (exec_lhu s rd rs1 imm),
    fun s rd rs1 imm => execTrapsSomehow_of_load (exec_lwu s rd rs1 imm),
    fun s rs1 rs2 imm => execTrapsSomehow_of_store (exec_sh s rs1 rs2 imm),
    fun s rs1 rs2 imm => execTrapsSomehow_of_store (exec_sw s rs1 rs2 imm),
    fun s rs1 rs2 imm => execTrapsSomehow_of_store (exec_sd s rs1 rs2 imm),
    fun s rdp rs1p off => execTrapsSomehow_of_load (exec_cLw s rdp rs1p off),
    fun s rdp rs1p off => execTrapsSomehow_of_load (exec_cLd s rdp rs1p off),
    fun s rs1p rs2p off => execTrapsSomehow_of_store (exec_cSw s rs1p rs2p off),
    fun s rs1p rs2p off => execTrapsSomehow_of_store (exec_cSd s rs1p rs2p off),
    fun s rd off hpath => execTrapsSomehow_of_load ((exec_cLwsp s rd off).trans (s.onExpandPath_expand hpath _ _)),
    fun s rd off hpath => execTrapsSomehow_of_load ((exec_cLdsp s rd off).trans (s.onExpandPath_expand hpath _ _)),
    fun s rs2 off hpath => execTrapsSomehow_of_store ((exec_cSwsp s rs2 off).trans (s.onExpandPath_expand hpath _ _)),
    fun s rs2 off hpath => execTrapsSomehow_of_store ((exec_cSdsp s rs2 off).trans (s.onExpandPath_expand hpath _ _))⟩

end Sys2Proof.Machine
end

section
/-! SUPPORT. Statement O45: the register-immediate instructions (43_int_imm.md). Each form is one result of length 4; what is
left to show is that the value the model writes is the one the rule names. -/

namespace Sys2Proof.Machine

/-! ## The values: a comparison as 1 or 0, and a result named otherwise than the model writes it -/

/-- SLTI compares with the immediate itself: the sign-extension keeps its signed value (43_int_imm.md R191). -/
theorem toInt_simm {n : Nat} (imm : BitVec n) (h : n ≤ 64) : (simm imm).toInt = imm.toInt :=
  BitVec.toInt_signExtend_of_le h

theorem boolWord_eq_ite {c : Bool} {cond : Prop} [Decidable cond] (h : c = true ↔ cond) :
    boolWord c = if cond then 1 else 0 := by
  simp only [boolWord, h]

theorem execSets_of_regResult_eq {i : Instr} {s : State} {rd : RegIdx} {v v' : Word}
    (hexec : exec i s = s.regResult 4 rd v) (hv : v = v') : ExecSets i s rd v' (s.pc + 4) :=
  hv ▸ execSets_of_regResult hexec

/-! ## The statement -/

/-- Settles O45: a row of the table for the words (`decode32_of_row`), a run of the decoder for the example, and one result
whose value is the stated one (`execSets_of_regResult`); the comparisons and the shifts are restated on numbers. -/
theorem immediateArithmetic : Obligations.ImmediateArithmetic := by
  refine ⟨⟨decode32_of_row (List.mem_of_getElem? (i := 21) rfl), by decide, fun s rd rs1 imm => ?addi⟩,
    ⟨decode32_of_row (List.mem_of_getElem? (i := 22) rfl), by decide, fun s rd rs1 imm => ?slti⟩,
    ⟨decode32_of_row (List.mem_of_getElem? (i := 23) rfl), by decide, fun s rd rs1 imm => ?sltiu⟩,
    ⟨decode32_of_row (List.mem_of_getElem? (i := 24) rfl), by decide, fun s rd rs1 imm => ?xori⟩,
    ⟨decode32_of_row (List.mem_of_getElem? (i := 25) rfl), by decide, fun s rd rs1 imm => ?ori⟩,
    ⟨decode32_of_row (List.mem_of_getElem? (i := 26) rfl), by decide, fun s rd rs1 imm => ?andi⟩,
    ⟨decode32_of_row (List.mem_of_getElem? (i := 27) rfl), by decide, fun s rd rs1 shamt => ?slli⟩,
    ⟨decode32_of_row (List.mem_of_getElem? (i := 28) rfl), by decide, fun s rd rs1 shamt => ?srli⟩,
    ⟨decode32_of_row (List.mem_of_getElem? (i := 29) rfl), by decide, fun s rd rs1 shamt => ?srai⟩, by decide⟩
  case addi => exact execSets_of_regResult (exec_addi s rd rs1 imm)
  case slti =>
    rw [← toInt_simm imm (by decide)]
    exact execSets_of_regResult_eq (exec_slti s rd rs1 imm) (boolWord_eq_ite ltSigned_iff)
  case sltiu => exact execSets_of_regResult_eq (exec_sltiu s rd rs1 imm) (boolWord_eq_ite ltUnsigned_iff)
  case xori => exact execSets_of_regResult (exec_xori s rd rs1 imm)
  case ori => exact execSets_of_regResult (exec_ori s rd rs1 imm)
  case andi => exact execSets_of_regResult (exec_andi s rd rs1 imm)
  case slli => exact execSets_of_regResult_eq (exec_slli s rd rs1 shamt) (shiftLeft_eq_ofNat_mul _ _)
  case srli => exact execSets_of_regResult_eq (exec_srli s rd rs1 shamt) (ushiftRight_eq_ofNat_div _ _)
  case srai => exact execSets_of_regResult_eq (exec_srai s rd rs1 shamt) (sshiftRight_eq_ofInt_div _ _)

end Sys2Proof.Machine
end


section
/-! SUPPORT. Statements O46, O47 and O48: the register-register instructions and the M extension (44_int_reg.md). Each form is
one result of length 4; what is left to show is that the value the model computes on integers is the one the rule names. -/

namespace Sys2Proof.Machine

/-! ## The values: the shift amount, the product's halves, and the division corners -/

theorem shiftAmount64_eq_mod (v : Word) : shiftAmount64 v = v.toNat % 64 := by
  rw [shiftAmount64, BitVec.extractLsb'_toNat, Nat.shiftRight_zero]

section
variable (a b : Word)

theorem mul_eq_lowHalf : a * b = (a.zeroExtend 128 * b.zeroExtend 128).extractLsb' 0 64 := by
  rw [BitVec.extractLsb'_mul (by decide), BitVec.zeroExtend_eq_setWidth, BitVec.zeroExtend_eq_setWidth,
    BitVec.extractLsb'_setWidth_of_le (by decide), BitVec.extractLsb'_setWidth_of_le (by decide),
    BitVec.extractLsb'_eq_self, BitVec.extractLsb'_eq_self]

/-- Bits 127:64 of an integer kept in 128 bits are its floor quotient by 2^64, whatever its sign. -/
theorem highHalf_ofInt (p : Int) : (BitVec.ofInt 128 p).extractLsb' 64 64 = BitVec.ofInt 64 (p / 2 ^ 64) := by
  apply BitVec.eq_of_toNat_eq
  rw [BitVec.extractLsb'_toNat, BitVec.toNat_ofInt, BitVec.toNat_ofInt, Nat.shiftRight_eq_div_pow]
  omega

/-- Each operand enters the product as the integer its reading gives: `signExtend` is `ofInt` of the signed one. -/
theorem mulHighSS_eq_highHalf : mulHighSS a b = (a.signExtend 128 * b.signExtend 128).extractLsb' 64 64 := by
  rw [BitVec.signExtend, BitVec.signExtend, ← BitVec.ofInt_mul, highHalf_ofInt, mulHighSS]

theorem zeroExtend_eq_ofInt_toNat (n : Nat) : a.zeroExtend n = BitVec.ofInt n a.toNat := by
  rw [BitVec.ofInt_natCast, BitVec.ofNat_toNat, BitVec.zeroExtend_eq_setWidth]

theorem mulHighSU_eq_highHalf : mulHighSU a b = (a.signExtend 128 * b.zeroExtend 128).extractLsb' 64 64 := by
  rw [BitVec.signExtend, zeroExtend_eq_ofInt_toNat, ← BitVec.ofInt_mul, highHalf_ofInt, mulHighSU]

theorem mulHighUU_eq_highHalf : mulHighUU a b = (a.zeroExtend 128 * b.zeroExtend 128).extractLsb' 64 64 := by
  rw [zeroExtend_eq_ofInt_toNat, zeroExtend_eq_ofInt_toNat, ← BitVec.ofInt_mul, highHalf_ofInt, mulHighUU,
    ← BitVec.ofInt_natCast]
  norm_cast

end

section
variable {n : Nat} {a b : BitVec n}

/-- The quotient of the overflow case wraps back to the dividend (44_int_reg.md R228). -/
theorem ofInt_tdiv_of_overflow (ha : a.toInt = -2 ^ (n - 1)) (hb : b.toInt = -1) :
    BitVec.ofInt n (a.toInt.tdiv b.toInt) = a := by
  have hmin : a = BitVec.intMin n := by rw [BitVec.intMin_eq_neg_two_pow, ← ha, BitVec.ofInt_toInt]
  rw [hb, Int.tdiv_neg, Int.tdiv_one, BitVec.ofInt_neg, BitVec.ofInt_toInt, hmin, BitVec.neg_intMin]

theorem ofInt_tmod_of_neg_one (hb : b.toInt = -1) : BitVec.ofInt n (a.toInt.tmod b.toInt) = 0 := by
  rw [hb, Int.tmod_neg, Int.tmod_one]
  rfl

/-- The model has no overflow case of its own: the exact quotient, narrowed, is what R228 gives. -/
theorem divSigned_eq_divRule : divSigned a b = divRule a b := by
  rw [divSigned, divRule, BitVec.ofNat_eq_ofNat]
  split_ifs with hzero hover
  · rfl
  · exact ofInt_tdiv_of_overflow hover.1 hover.2
  · rfl

theorem remSigned_eq_remRule : remSigned a b = remRule a b := by
  rw [remSigned, remRule, BitVec.ofNat_eq_ofNat]
  split_ifs with hzero hover
  · rfl
  · exact ofInt_tmod_of_neg_one hover.2
  · rfl

/-! The unsigned forms have no overflow: the model's case split is the rule's own. -/

theorem divUnsigned_eq_divuRule : divUnsigned a b = divuRule a b := rfl

theorem remUnsigned_eq_remuRule : remUnsigned a b = remuRule a b := rfl

end

/-! ## The statements -/

/-- Settles O46: a row of the table for the words (`decode32_of_row`), a run of the decoder for the example, and one result
whose value is the stated one; the comparisons and the shifts are restated on numbers. -/
theorem registerArithmetic : Obligations.RegisterArithmetic := by
  refine ⟨⟨decode32_of_row (List.mem_of_getElem? (i := 30) rfl), by decide, fun s rd rs1 rs2 => ?add⟩,
    ⟨decode32_of_row (List.mem_of_getElem? (i := 31) rfl), by decide, fun s rd rs1 rs2 => ?sub⟩,
    ⟨decode32_of_row (List.mem_of_getElem? (i := 32) rfl), by decide, fun s rd rs1 rs2 => ?sll⟩,
    ⟨decode32_of_row (List.mem_of_getElem? (i := 33) rfl), by decide, fun s rd rs1 rs2 => ?slt⟩,
    ⟨decode32_of_row (List.mem_of_getElem? (i := 34) rfl), by decide, fun s rd rs1 rs2 => ?sltu⟩,
    ⟨decode32_of_row (List.mem_of_getElem? (i := 35) rfl), by decide, fun s rd rs1 rs2 => ?xor⟩,
    ⟨decode32_of_row (List.mem_of_getElem? (i := 36) rfl), by decide, fun s rd rs1 rs2 => ?srl⟩,
    ⟨decode32_of_row (List.mem_of_getElem? (i := 37) rfl), by decide, fun s rd rs1 rs2 => ?sra⟩,
    ⟨decode32_of_row (List.mem_of_getElem? (i := 38) rfl), by decide, fun s rd rs1 rs2 => ?or⟩,
    ⟨decode32_of_row (List.mem_of_getElem? (i := 39) rfl), by decide, fun s rd rs1 rs2 => ?and⟩⟩
  case add => exact execSets_of_regResult (exec_add s rd rs1 rs2)
  case sub => exact execSets_of_regResult (exec_sub s rd rs1 rs2)
  case sll =>
    rw [← shiftAmount64_eq_mod]
    exact execSets_of_regResult_eq (exec_sll s rd rs1 rs2) (shiftLeft_eq_ofNat_mul _ _)
  case slt => exact execSets_of_regResult_eq (exec_slt s rd rs1 rs2) (boolWord_eq_ite ltSigned_iff)
  case sltu => exact execSets_of_regResult_eq (exec_sltu s rd rs1 rs2) (boolWord_eq_ite ltUnsigned_iff)
  case xor => exact execSets_of_regResult (exec_xor s rd rs1 rs2)
  case srl =>
    rw [← shiftAmount64_eq_mod]
    exact execSets_of_regResult_eq (exec_srl s rd rs1 rs2) (ushiftRight_eq_ofNat_div _ _)
  case sra =>
    rw [← shiftAmount64_eq_mod]
    exact execSets_of_regResult_eq (exec_sra s rd rs1 rs2) (sshiftRight_eq_ofInt_div _ _)
  case or => exact execSets_of_regResult (exec_or s rd rs1 rs2)
  case and => exact execSets_of_regResult (exec_and s rd rs1 rs2)

/-- Settles O47: the words as in O46, and one result that is the stated half of the 128-bit product. -/
theorem multiplyResults : Obligations.MultiplyResults :=
  ⟨⟨decode32_of_row (List.mem_of_getElem? (i := 40) rfl), by decide,
      fun s rd rs1 rs2 => execSets_of_regResult_eq (exec_mul s rd rs1 rs2) (mul_eq_lowHalf _ _)⟩,
    ⟨decode32_of_row (List.mem_of_getElem? (i := 41) rfl), by decide,
      fun s rd rs1 rs2 => execSets_of_regResult_eq (exec_mulh s rd rs1 rs2) (mulHighSS_eq_highHalf _ _)⟩,
    ⟨decode32_of_row (List.mem_of_getElem? (i := 42) rfl), by decide,
      fun s rd rs1 rs2 => execSets_of_regResult_eq (exec_mulhsu s rd rs1 rs2) (mulHighSU_eq_highHalf _ _)⟩,
    ⟨decode32_of_row (List.mem_of_getElem? (i := 43) rfl), by decide,
      fun s rd rs1 rs2 => execSets_of_regResult_eq (exec_mulhu s rd rs1 rs2) (mulHighUU_eq_highHalf _ _)⟩⟩

/-- Settles O48: the words as in O46, and one result; the overflow corner of the signed forms is the one the
model does not name (`divSigned_eq_divRule`, `remSigned_eq_remRule`). -/
theorem divideResults : Obligations.DivideResults :=
  ⟨⟨decode32_of_row (List.mem_of_getElem? (i := 44) rfl), by decide,
      fun s rd rs1 rs2 => execSets_of_regResult_eq (exec_div s rd rs1 rs2) divSigned_eq_divRule⟩,
    ⟨decode32_of_row (List.mem_of_getElem? (i := 45) rfl), by decide,
      fun s rd rs1 rs2 => execSets_of_regResult_eq (exec_divu s rd rs1 rs2) divUnsigned_eq_divuRule⟩,
    ⟨decode32_of_row (List.mem_of_getElem? (i := 46) rfl), by decide,
      fun s rd rs1 rs2 => execSets_of_regResult_eq (exec_rem s rd rs1 rs2) remSigned_eq_remRule⟩,
    ⟨decode32_of_row (List.mem_of_getElem? (i := 47) rfl), by decide,
      fun s rd rs1 rs2 => execSets_of_regResult_eq (exec_remu s rd rs1 rs2) remUnsigned_eq_remuRule⟩⟩

end Sys2Proof.Machine
end

section
/-! SUPPORT. Statements O49 and O50: the word instructions (45_word_ops.md). Each form is one result of length 4, the
sign-extension of an operation on 32 bits; what is left to show is that the value is the one the rule names. -/

namespace Sys2Proof.Machine

/-! ## The values: the low 32 bits and the shift amount as numbers, and the word shifts -/

theorem toNat_low32 (v : Word) : (low32 v).toNat = v.toNat % 2 ^ 32 := by
  rw [low32, BitVec.extractLsb'_toNat, Nat.shiftRight_zero]

theorem shiftAmount32_eq_mod (v : Word) : shiftAmount32 v = v.toNat % 32 := by
  rw [shiftAmount32, BitVec.extractLsb'_toNat, Nat.shiftRight_zero]

section
variable (v : Word) (k : Nat)

theorem sext32_shiftLeft_eq_ofNat_mul :
    sext32 (low32 v <<< k) = (BitVec.ofNat 32 (v.toNat % 2 ^ 32 * 2 ^ k)).signExtend 64 := by
  rw [sext32, shiftLeft_eq_ofNat_mul, toNat_low32]

theorem sext32_ushiftRight_eq_ofNat_div :
    sext32 (low32 v >>> k) = (BitVec.ofNat 32 (v.toNat % 2 ^ 32 / 2 ^ k)).signExtend 64 := by
  rw [sext32, ushiftRight_eq_ofNat_div, toNat_low32]

/-- The shifted integer still fits in 32 bits, so it may be narrowed to 64 at once (45_word_ops.md R243). -/
theorem sext32_sshiftRight_eq_ofInt_div (x : BitVec 32) : sext32 (x.sshiftRight k) = BitVec.ofInt 64 (x.toInt / 2 ^ k) := by
  rw [sext32, BitVec.signExtend, BitVec.toInt_sshiftRight, Int.shiftRight_eq_div_pow, Nat.cast_pow, Nat.cast_ofNat]

end

/-! ## The statements -/

/-- Settles O49: a row of the table for the words (`decode32_of_row`), a run of the decoder for the example, and one result
whose value is the stated shift on numbers. -/
theorem wordImmediateShifts : Obligations.WordImmediateShifts :=
  ⟨⟨decode32_of_row (List.mem_of_getElem? (i := 49) rfl), by decide,
      fun s rd rs1 shamt => execSets_of_regResult_eq (exec_slliw s rd rs1 shamt) (sext32_shiftLeft_eq_ofNat_mul _ _)⟩,
    ⟨decode32_of_row (List.mem_of_getElem? (i := 50) rfl), by decide,
      fun s rd rs1 shamt => execSets_of_regResult_eq (exec_srliw s rd rs1 shamt) (sext32_ushiftRight_eq_ofNat_div _ _)⟩,
    ⟨decode32_of_row (List.mem_of_getElem? (i := 51) rfl), by decide,
      fun s rd rs1 shamt => execSets_of_regResult_eq (exec_sraiw s rd rs1 shamt) (sext32_sshiftRight_eq_ofInt_div _ _)⟩⟩

/-- Settles O50: each form is one result, the sign-extended operation on the low 32 bits of its operands; the shift amounts
are restated on numbers (`shiftAmount32_eq_mod`), and the divisions are those of O48 at 32 bits. -/
theorem wordArithmetic : Obligations.WordArithmetic := by
  refine ⟨fun s rd rs1 imm => ?addiw, fun s rd rs1 rs2 => ?addw, fun s rd rs1 rs2 => ?subw, fun s rd rs1 rs2 => ?sllw,
    fun s rd rs1 rs2 => ?srlw, fun s rd rs1 rs2 => ?sraw, fun s rd rs1 rs2 => ?mulw, fun s rd rs1 rs2 => ?divw,
    fun s rd rs1 rs2 => ?divuw, fun s rd rs1 rs2 => ?remw, fun s rd rs1 rs2 => ?remuw⟩
  case addiw => exact execSets_of_regResult (exec_addiw s rd rs1 imm)
  case addw => exact execSets_of_regResult (exec_addw s rd rs1 rs2)
  case subw => exact execSets_of_regResult (exec_subw s rd rs1 rs2)
  case sllw =>
    rw [← shiftAmount32_eq_mod]
    exact execSets_of_regResult_eq (exec_sllw s rd rs1 rs2) (sext32_shiftLeft_eq_ofNat_mul _ _)
  case srlw =>
    rw [← shiftAmount32_eq_mod]
    exact execSets_of_regResult_eq (exec_srlw s rd rs1 rs2) (sext32_ushiftRight_eq_ofNat_div _ _)
  case sraw =>
    rw [← shiftAmount32_eq_mod]
    exact execSets_of_regResult_eq (exec_sraw s rd rs1 rs2) (sext32_sshiftRight_eq_ofInt_div _ _)
  case mulw => exact execSets_of_regResult (exec_mulw s rd rs1 rs2)
  case divw => exact execSets_of_regResult_eq (exec_divw s rd rs1 rs2) (congrArg sext32 divSigned_eq_divRule)
  case divuw => exact execSets_of_regResult_eq (exec_divuw s rd rs1 rs2) (congrArg sext32 divUnsigned_eq_divuRule)
  case remw => exact execSets_of_regResult_eq (exec_remw s rd rs1 rs2) (congrArg sext32 remSigned_eq_remRule)
  case remuw => exact execSets_of_regResult_eq (exec_remuw s rd rs1 rs2) (congrArg sext32 remUnsigned_eq_remuRule)

end Sys2Proof.Machine
end

section
/-! SUPPORT. Statements O51, O54 and O55: fences and CSR instructions (46_fence_system_csr.md). A fence is an advance of the
pc; each CSR form is one CSR access of length 4, so it completes where the hart allows the access and takes illegal
instruction where it does not. -/

namespace Sys2Proof.Machine

/-! ## Fences (46_fence_system_csr.md R260, R261) -/

section
variable (s : State) (len : Nat)

theorem State.advance_effect : PcEffect s (s.advance len) (s.nextPc len) :=
  ⟨rfl, fun _ => rfl, .refl rfl rfl, ⟨rfl, rfl, rfl, rfl, rfl, rfl, rfl⟩, ⟨rfl, rfl⟩⟩

theorem State.syncFetch_advance_effect : SyncEffect s (s.syncFetch.advance len) (s.nextPc len) :=
  ⟨rfl, fun _ => rfl, rfl, rfl, fun _ => rfl, ⟨rfl, rfl, rfl, rfl, rfl, rfl, rfl⟩, ⟨rfl, rfl⟩⟩

end

/-! ## The answers of a form that is one CSR access (46_fence_system_csr.md R270, R273) -/

section
variable {i : Instr} {s : State} {bits : Word32} {rd : RegIdx} {a : CsrIdx} {f : Word → Word}

/-- The forms that always write (46_fence_system_csr.md R264, R267). -/
theorem execCsr_of_write (hexec : exec i s = s.csrOp 4 bits rd a true f)
    (hwf : Cells.wf 0#64 0xC00 s.csrs = true) (hallowed : CsrAllowed s a True) :
    ExecCsr i s rd a (some (f (s.readCsr a))) (s.pc + 4) := by
  rw [ExecCsr, hexec]
  exact s.csrOp_completes hwf 4 bits rd a true f ((s.csrPermitted_iff (iff_of_true rfl trivial)).mpr hallowed)

/-- The forms whose operand field, rs1 or zimm, says by being zero that there is no write (46_fence_system_csr.md R265,
R266, R268, R269). -/
theorem execCsr_of_writeUnlessZero {x : BitVec 5} (hexec : exec i s = s.csrOp 4 bits rd a (x != 0) f)
    (hwf : Cells.wf 0#64 0xC00 s.csrs = true) (hallowed : CsrAllowed s a (x ≠ 0)) :
    ExecCsr i s rd a (if x = 0 then none else some (f (s.readCsr a))) (s.pc + 4) := by
  have hcompletes := s.csrOp_completes hwf 4 bits rd a (x != 0) f ((s.csrPermitted_iff bne_iff_ne).mpr hallowed)
  simp only [bne_iff_ne, ite_not] at hcompletes
  rwa [ExecCsr, hexec]

theorem execTraps_of_csrRefused {writes : Bool} {W : Prop} (hexec : exec i s = s.csrOp 4 bits rd a writes f)
    (hwrites : writes = true ↔ W) (hrefused : ¬ CsrAllowed s a W) : ExecTraps i s 2 (tvalOf s bits) := by
  rw [← s.csrPermitted_iff hwrites, Bool.not_eq_true] at hrefused
  rw [ExecTraps, hexec, ← s.illegalTval_eq]
  exact s.csrOp_refused 4 bits rd a writes f hrefused

end

/-! ## The statements -/

/-- Settles O51: either fence is an advance of the pc, FENCE.I after it drops the older memories, and with none of them left
the fetch is memory's word (`State.fetchWord_eq`). -/
theorem fenceEffects : Obligations.FenceEffects :=
  ⟨fun s _ _ _ _ _ => ⟨_, rfl, s.advance_effect 4⟩,
    fun s _ _ _ => ⟨_, rfl, s.syncFetch_advance_effect 4, State.fetchWord_eq _ rfl⟩⟩

/-- Settles O54: each form is one CSR access, of the kind that always writes (`execCsr_of_write`) or of the kind that writes
unless its operand field is zero (`execCsr_of_writeUnlessZero`). -/
theorem csrAccessResults : Obligations.CsrAccessResults :=
  ⟨fun s rd rs1 csr => execCsr_of_write (exec_csrrw s rd rs1 csr),
    fun s rd rs1 csr => execCsr_of_writeUnlessZero (exec_csrrs s rd rs1 csr),
    fun s rd rs1 csr => execCsr_of_writeUnlessZero (exec_csrrc s rd rs1 csr),
    fun s rd zimm csr => execCsr_of_write (exec_csrrwi s rd zimm csr),
    fun s rd zimm csr => execCsr_of_writeUnlessZero (exec_csrrsi s rd zimm csr),
    fun s rd zimm csr => execCsr_of_writeUnlessZero (exec_csrrci s rd zimm csr)⟩

/-- Settles O55: each form is one CSR access, which is refused where the hart does not allow it; the bits it records are the
form's own encoding. -/
theorem csrAccessRefusedTraps : Obligations.CsrAccessRefusedTraps :=
  ⟨fun s rd rs1 csr => execTraps_of_csrRefused (exec_csrrw s rd rs1 csr) (iff_of_true rfl trivial),
    fun s rd rs1 csr => execTraps_of_csrRefused (exec_csrrs s rd rs1 csr) bne_iff_ne,
    fun s rd rs1 csr => execTraps_of_csrRefused (exec_csrrc s rd rs1 csr) bne_iff_ne,
    fun s rd zimm csr => execTraps_of_csrRefused (exec_csrrwi s rd zimm csr) (iff_of_true rfl trivial),
    fun s rd zimm csr => execTraps_of_csrRefused (exec_csrrsi s rd zimm csr) bne_iff_ne,
    fun s rd zimm csr => execTraps_of_csrRefused (exec_csrrci s rd zimm csr) bne_iff_ne⟩

end Sys2Proof.Machine
end

section
/-! SUPPORT. Statements O21, O22 and O59: the compressed quadrant decoder (47_compressed_decoder.md). What it answers is said
once for the parcels it leaves unimplemented and once for those of its four direct forms, whose words are the expander's
(`expansion_eq_placed`). -/

namespace Sys2Proof.Machine

/-! ## What the quadrant decoder answers (47_compressed_decoder.md R281, R286) -/

section
variable {h : Half}

theorem cdecode_unimplemented_iff : cdecode h = .error .unimplemented ↔
    h ≠ 0 ∧ (quadrant h ≠ 0b00#2 ∨ cfunct3 h ∈ [0b000#3, 0b001#3, 0b100#3, 0b101#3]) := by
  unfold cdecode
  split_ifs with hzero hq
  · exact iff_of_false nofun fun ⟨hne, _⟩ => hne (beq_iff_eq.mp hzero)
  · exact iff_of_true rfl ⟨mt beq_iff_eq.mpr hzero, .inl (bne_iff_ne.mp hq)⟩
  · have hq : quadrant h = 0b00#2 := by simpa using hq
    split
    case h_1 hf | h_2 hf | h_3 hf | h_4 hf => simp [hq, hf]
    case h_5 hlw hld hsw hsd =>
      have hrest : ∀ f : BitVec 3, f ≠ 0b010#3 → f ≠ 0b011#3 → f ≠ 0b110#3 → f ≠ 0b111#3 →
          f ∈ [0b000#3, 0b001#3, 0b100#3, 0b101#3] := by decide
      exact iff_of_true rfl ⟨mt beq_iff_eq.mpr hzero, .inr (hrest _ hlw hld hsw hsd)⟩

/-- A parcel of quadrant 0 with a funct3 of the four direct forms decodes to its form's expansion. -/
theorem cdecode_direct (hq : quadrant h = 0b00#2) :
    (cfunct3 h = 0b010#3 → cdecode h = .ok (.lw ⟨Form.cLw.expansion h⟩)) ∧
      (cfunct3 h = 0b011#3 → cdecode h = .ok (.ld ⟨Form.cLd.expansion h⟩)) ∧
      (cfunct3 h = 0b110#3 → cdecode h = .ok (.sw ⟨Form.cSw.expansion h⟩)) ∧
      (cfunct3 h = 0b111#3 → cdecode h = .ok (.sd ⟨Form.cSd.expansion h⟩)) := by
  obtain ⟨hlw, hld, hsw, hsd⟩ := expansion_eq_placed h
  have hzero (hf : cfunct3 h ≠ 0b000#3) : h ≠ 0#16 := by rintro rfl; exact hf rfl
  rw [hlw, hld, hsw, hsd]
  refine ⟨fun hf => ?_, fun hf => ?_, fun hf => ?_, fun hf => ?_⟩ <;>
    simp [cdecode, hzero (by simp [hf]), hq, hf]

end

/-- On the quadrant path a form that only the expander decodes takes illegal instruction and records its own encoding
(47_compressed_decoder.md R286; 60_exceptions.md R381). -/
theorem execTraps_of_expanderOnly {i : Instr} {s : State} {run : Result} (hpath : s.params.compressedPath = .quadrant)
    (hexec : exec i s = s.onExpandPath (encode i) run) : ExecTraps i s 2 (tvalOf s (encode i)) := by
  rw [ExecTraps, hexec, s.onExpandPath_quadrant hpath, ← s.illegalTval_eq]
  exact s.illegalInstruction_completes (encode i)

/-! ## The statements -/

/-- Settles O21: the parcels left unimplemented (`cdecode_unimplemented_iff`), and two runs of the decoder. -/
theorem quadrantDecoderOutcomes : Obligations.QuadrantDecoderOutcomes :=
  ⟨fun _ => cdecode_unimplemented_iff, rfl, rfl, rfl⟩

/-- Settles O22: the word of each direct form is its expansion (`cdecode_direct`), with the popular registers as they stand in
the word (`popular_eq_placedReg`); the examples are runs of the decoder. -/
theorem quadrantDecoderPlacesBits : Obligations.QuadrantDecoderPlacesBits := by
  refine ⟨fun h hq hf => ?_, fun h hq hf => ?_, fun h hq hf => ?_, fun h hq hf => ?_, by decide⟩ <;>
    obtain ⟨hlw, hld, hsw, hsd⟩ := cdecode_direct hq <;>
    rw [← placedReg, ← placedReg, ← popular_eq_placedReg, ← popular_eq_placedReg]
  · exact hlw hf
  · exact hld hf
  · exact hsw hf
  · exact hsd hf

/-- Settles O59: each form's meaning is one that only the expand path runs (`execTraps_of_expanderOnly`). -/
theorem quadrantPathTraps : Obligations.QuadrantPathTraps := fun s hpath =>
  have traps {i : Instr} {run : Result} := execTraps_of_expanderOnly (i := i) (run := run) hpath
  ⟨fun rdp n => traps (exec_cAddi4spn s rdp n),
    traps (exec_cNop s),
    fun rd n => traps (exec_cAddi s rd n),
    fun rd n => traps (exec_cAddiw s rd n),
    fun rd n => traps (exec_cLi s rd n),
    fun n => traps (exec_cAddi16sp s n),
    fun rd n => traps (exec_cLui s rd n),
    fun p n => traps (exec_cSrli s p n),
    fun p n => traps (exec_cSrai s p n),
    fun p n => traps (exec_cAndi s p n),
    fun p q => traps (exec_cSub s p q),
    fun p q => traps (exec_cXor s p q),
    fun p q => traps (exec_cOr s p q),
    fun p q => traps (exec_cAnd s p q),
    fun p q => traps (exec_cSubw s p q),
    fun p q => traps (exec_cAddw s p q),
    fun n => traps (exec_cJ s n),
    fun p n => traps (exec_cBeqz s p n),
    fun p n => traps (exec_cBnez s p n),
    fun rd n => traps (exec_cSlli s rd n),
    fun rd n => traps (exec_cLwsp s rd n),
    fun rd n => traps (exec_cLdsp s rd n),
    fun rs1 => traps (exec_cJr s rs1),
    fun rd rs2 => traps (exec_cMv s rd rs2),
    traps (exec_cEbreak s),
    fun rs1 => traps (exec_cJalr s rs1),
    fun rd rs2 => traps (exec_cAdd s rd rs2),
    fun rs2 n => traps (exec_cSwsp s rs2 n),
    fun rs2 n => traps (exec_cSdsp s rs2 n)⟩

end Sys2Proof.Machine
end

section
/-! SUPPORT. Statements O1, O8 and O11, and the standard half of O3: a standard word is put together from its fields, and a row
fixes those of them that its form does not hold as operands (30_encoding.md R63 to R66; 40_dispatch.md R123). -/

namespace Sys2Proof.Machine

/-! ## Fields of fields, and of words put together

The widths of a word's parts add up to a literal, which the library's own lemmas, stated for a sum, do not match under `simp`. -/

@[simp] theorem extractLsb'_extractLsb' {n : Nat} (x : BitVec n) {j k l m : Nat} (h : j + k ≤ m) :
    (x.extractLsb' l m).extractLsb' j k = x.extractLsb' (l + j) k := by
  ext i hi
  simp [show j + i < m by omega, Nat.add_assoc]

@[simp] theorem extractLsb'_append_high {v w start len : Nat} {x : BitVec v} {y : BitVec w} (h : w ≤ start) :
    (no_index (x ++ y)).extractLsb' start len = x.extractLsb' (start - w) len :=
  BitVec.extractLsb'_append_eq_of_le h

@[simp] theorem extractLsb'_append_low {v w start len : Nat} {x : BitVec v} {y : BitVec w} (h : start + len ≤ w) :
    (no_index (x ++ y)).extractLsb' start len = y.extractLsb' start len :=
  BitVec.extractLsb'_append_eq_of_add_le h

/-- Neighbouring fields are one field. -/
@[simp] theorem extractLsb'_append_next {n i j k l : Nat} {x : BitVec n} (h : j = i + k) :
    @HAppend.hAppend (BitVec l) (BitVec k) (no_index (BitVec (l + k))) _ (x.extractLsb' j l) (x.extractLsb' i k) =
      x.extractLsb' i (l + k) :=
  BitVec.extractLsb'_append_extractLsb'_eq_extractLsb' h

/-! ## The fields a mask fixes, and the word of a format from its fields -/

/-- A field that a row's mask covers is the pattern's. -/
theorem extractLsb'_of_and {w m p : Word32} (h : w &&& m = p) {k n : Nat} (hm : m.extractLsb' k n = BitVec.allOnes n) :
    w.extractLsb' k n = p.extractLsb' k n := by
  rw [← h, BitVec.extractLsb'_and, hm, BitVec.and_allOnes]

section
variable (w : Word32)

theorem wordR_fields : wordR (funct7 w) (rs2Field w) (rs1Field w) (funct3 w) (rdField w) (opcode w) = w := by
  simp [wordR, funct7, rs2Field, rs1Field, funct3, rdField, opcode]

theorem wordI_fields : wordI (immI12 w) (rs1Field w) (funct3 w) (rdField w) (opcode w) = w := by
  simp [wordI, immI12, rs1Field, funct3, rdField, opcode]

theorem wordS_fields : wordS (immS12 w) (rs2Field w) (rs1Field w) (funct3 w) (opcode w) = w := by
  simp [wordS, immS12, rs2Field, rs1Field, funct3, opcode]

theorem wordB_fields : wordB (immB13 w) (rs2Field w) (rs1Field w) (funct3 w) (opcode w) = w := by
  simp [wordB, immB13, rs2Field, rs1Field, funct3, opcode]

theorem wordU_fields : wordU (immU20 w) (rdField w) (opcode w) = w := by
  simp [wordU, immU20, rdField, opcode]

theorem wordJ_fields : wordJ (immJ21 w) (rdField w) (opcode w) = w := by
  simp [wordJ, immJ21, rdField, opcode]

/-- The Shift64 format is an I immediate split into funct6 and the shift amount. -/
theorem wordShift64_eq_wordI (f6 shamt : BitVec 6) (rs1 : RegIdx) (f3 : BitVec 3) (rd : RegIdx) :
    wordShift64 f6 shamt rs1 f3 rd = wordI (f6 ++ shamt) rs1 f3 rd 0b0010011#7 := rfl

/-- The Fence format is an I immediate split into fm, pred and succ. -/
theorem wordFence_eq_wordI (fm pred succ : BitVec 4) (rs1 rd : RegIdx) :
    wordFence fm pred succ rs1 rd = wordI (fm ++ pred ++ succ) rs1 0b000#3 rd 0b0001111#7 := rfl

theorem funct6_append_shamt6 : funct6 w ++ shamt6 w = immI12 w := by
  simp [funct6, shamt6, immI12]

theorem fenceFields_append : fmField w ++ predField w ++ succField w = immI12 w := by
  simp [fmField, predField, succField, immI12]

end

/-! ## The word of a row: its operands, and the dispatch fields of the row's pattern -/

section
variable {w : Word32} {f7 op : BitVec 7} {f6 : BitVec 6} {f3 : BitVec 3}

theorem wordR_of_row (h : w &&& 0xFE00707F#32 = wordR f7 0 0 f3 0 op) :
    wordR f7 (rs2Field w) (rs1Field w) f3 (rdField w) op = w := by
  have h7 : funct7 w = f7 := (extractLsb'_of_and h rfl).trans (funct7_wordR _ _ _ _ _ _)
  have h3 : funct3 w = f3 := (extractLsb'_of_and h rfl).trans (funct3_wordR _ _ _ _ _ _)
  have hop : opcode w = op := (extractLsb'_of_and h rfl).trans (opcode_wordR _ _ _ _ _ _)
  rw [← h7, ← h3, ← hop, wordR_fields]

/-- What a mask over funct3 and the opcode fixes. -/
theorem funct3_opcode_of_row (h : w &&& 0x0000707F#32 = wordI 0 0 f3 0 op) : funct3 w = f3 ∧ opcode w = op :=
  ⟨(extractLsb'_of_and h rfl).trans (funct3_wordI _ _ _ _ _), (extractLsb'_of_and h rfl).trans (opcode_wordI _ _ _ _ _)⟩

theorem wordI_of_row (h : w &&& 0x0000707F#32 = wordI 0 0 f3 0 op) :
    wordI (immI12 w) (rs1Field w) f3 (rdField w) op = w := by
  obtain ⟨h3, hop⟩ := funct3_opcode_of_row h
  rw [← h3, ← hop, wordI_fields]

theorem wordS_of_row (h : w &&& 0x0000707F#32 = wordI 0 0 f3 0 op) :
    wordS (immS12 w) (rs2Field w) (rs1Field w) f3 op = w := by
  obtain ⟨h3, hop⟩ := funct3_opcode_of_row h
  rw [← h3, ← hop, wordS_fields]

theorem wordB_of_row (h : w &&& 0x0000707F#32 = wordI 0 0 f3 0 op) :
    wordB (immB13 w) (rs2Field w) (rs1Field w) f3 op = w := by
  obtain ⟨h3, hop⟩ := funct3_opcode_of_row h
  rw [← h3, ← hop, wordB_fields]

theorem opcode_of_opcodeRow (h : w &&& 0x0000007F#32 = wordU 0 0 op) : opcode w = op :=
  (extractLsb'_of_and h rfl).trans (opcode_wordU _ _ _)

theorem wordU_of_row (h : w &&& 0x0000007F#32 = wordU 0 0 op) : wordU (immU20 w) (rdField w) op = w := by
  rw [← opcode_of_opcodeRow h, wordU_fields]

theorem wordJ_of_row (h : w &&& 0x0000007F#32 = wordU 0 0 op) : wordJ (immJ21 w) (rdField w) op = w := by
  rw [← opcode_of_opcodeRow h, wordJ_fields]

theorem wordShift64_of_row (h : w &&& 0xFC00707F#32 = wordShift64 f6 0 0 f3 0) :
    wordShift64 f6 (shamt6 w) (rs1Field w) f3 (rdField w) = w := by
  have h6 : funct6 w = f6 := (extractLsb'_of_and h rfl).trans (funct6_wordShift64 _ _ _ _ _)
  have h3 : funct3 w = f3 := (extractLsb'_of_and h rfl).trans (funct3_wordShift64 _ _ _ _ _)
  have hop : opcode w = 0b0010011#7 := (extractLsb'_of_and h rfl).trans (opcode_wordShift64 _ _ _ _ _)
  rw [wordShift64_eq_wordI, ← h6, ← h3, ← hop, funct6_append_shamt6, wordI_fields]

theorem wordShift32_of_row (h : w &&& 0xFE00707F#32 = wordShift32 f7 0 0 f3 0) :
    wordShift32 f7 (shamt5 w) (rs1Field w) f3 (rdField w) = w :=
  wordR_of_row h

theorem wordFence_of_row (h : w &&& 0x0000707F#32 = wordFence 0 0 0 0 0) :
    wordFence (fmField w) (predField w) (succField w) (rs1Field w) (rdField w) = w := by
  rw [wordFence_eq_wordI, fenceFields_append]
  exact wordI_of_row h

end

/-! ## Encoding a decoded standard form -/

section
variable {w : Word32} {v : Instruction}

theorem tag_build_getElem {k : Nat} (hk : k < standardRows.length) (w : Word32) :
    (standardRows[k].build w).tag.toNat = k + 1 := by
  have htags : standardRows.map (fun r => (r.build w).tag.toNat) = List.range' 1 72 := rfl
  have hget := congrArg (·[k]?) htags
  have hk' : k < 72 := hk
  simpa [List.getElem?_eq_getElem hk, List.getElem?_range', hk', Nat.add_comm] using hget

/-- The row of an accepted word is the one the variant's tag numbers. -/
theorem and_mask_of_decode32 (h : decode32 w = .ok v) (htag : v.tag ≠ 0) {r : Row}
    (hr : standardRows[v.tag.toNat - 1]? = some r) : w &&& r.mask = r.pattern := by
  obtain ⟨_, rfl⟩ | ⟨t, ht, hw, rfl⟩ := decode32_ok_cases h
  · exact absurd rfl htag
  · obtain ⟨k, hk, rfl⟩ := List.getElem_of_mem ht
    rw [tag_build_getElem hk, Nat.add_sub_cancel, List.getElem?_eq_getElem hk] at hr
    rwa [← Option.some.inj hr]

theorem formOf_len (v : Instruction) : (formOf v).len = if v.tag = 0 then 2 else 4 := by cases v <;> rfl

theorem lowZero_append_zero {n k : Nat} (x : BitVec n) : lowZero k (x ++ 0#k) = true :=
  beq_iff_eq.mpr BitVec.extractLsb'_append_eq_right

/-- Every decoded variant's form is well-formed: the offsets end in their implicit zero bit. -/
theorem formOf_wf (v : Instruction) : (formOf v).wf = true := by
  cases v
  case jal | beq | bne | blt | bge | bltu | bgeu => exact lowZero_append_zero _
  all_goals rfl

/-- The word of a decoded standard form is the word it was decoded from, format by format. -/
theorem encode_formOf (h : decode32 w = .ok v) (htag : v.tag ≠ 0) : encode (formOf v) = w := by
  have hrow := @and_mask_of_decode32 w v h htag
  obtain rfl := word_of_decode32 h
  clear h
  cases v
  case illegal => exact absurd rfl htag
  case lui | auipc => exact wordU_of_row (hrow rfl)
  case jal => exact wordJ_of_row (hrow rfl)
  case beq | bne | blt | bge | bltu | bgeu => exact wordB_of_row (hrow rfl)
  case sb | sh | sw | sd => exact wordS_of_row (hrow rfl)
  case slli | srli | srai => exact wordShift64_of_row (hrow rfl)
  case slliw | srliw | sraiw => exact wordShift32_of_row (hrow rfl)
  case fence => exact wordFence_of_row (hrow rfl)
  case ecall | ebreak => exact (hrow rfl).symm.trans BitVec.and_allOnes
  case jalr | lb | lh | lw | ld | lbu | lhu | lwu | addi | slti | sltiu | xori | ori | andi | addiw | fenceI | csrrw |
      csrrs | csrrc | csrrwi | csrrsi | csrrci => exact wordI_of_row (hrow rfl)
  case add | sub | sll | slt | sltu | xor | srl | sra | or | and | mul | mulh | mulhsu | mulhu | div | divu | rem | remu |
      addw | subw | sllw | srlw | sraw | mulw | divw | divuw | remw | remuw => exact wordR_of_row (hrow rfl)

end

/-! ## The two opcodes of section 46 -/

/-- Under MISC-MEM the rows are those of funct3 000 and 001. -/
theorem standardRows_miscMem : ∀ r ∈ standardRows, opcode r.pattern = 0b0001111#7 →
    funct3 r.mask = BitVec.allOnes 3 ∧ (funct3 r.pattern = 0b000#3 ∨ funct3 r.pattern = 0b001#3) := by decide

section
variable {w : Word32}

theorem decode32_of_miscMem (hop : opcode w = 0b0001111#7) (h0 : funct3 w ≠ 0b000#3) (h1 : funct3 w ≠ 0b001#3) :
    decode32 w = .error .illegal := by
  have hnone : ∀ r ∈ standardRows, w &&& r.mask ≠ r.pattern := by
    intro r hr hw
    obtain ⟨hmask, hpat⟩ := standardRows_miscMem r hr ((opcode_of_row hr hw).symm.trans hop)
    have hf3 : funct3 w = funct3 r.pattern := extractLsb'_of_and hw hmask
    rw [← hf3] at hpat
    exact hpat.elim h0 h1
  have hlow : w.extractLsb' 0 2 = 0b11#2 := by simpa [opcode] using congrArg (·.extractLsb' 0 2) hop
  have hlong : w.extractLsb' 2 3 ≠ 0b111#3 := by
    have : w.extractLsb' 2 3 = 0b011#3 := by simpa [opcode] using congrArg (·.extractLsb' 2 3) hop
    rw [this]
    decide
  rw [decode32_eq_decodeRows hlow hlong, decodeRows_of_noRow hnone, hop]
  rfl

/-- A row that fixes the opcode and funct3 alone takes every word with these. -/
theorem decode32_of_funct3 {f3 : BitVec 3} {op : BitVec 7} {build : Word32 → Instruction} (hop : opcode w = op)
    (hf3 : funct3 w = f3) {k : Nat} (hr : standardRows[k]? = some ⟨0#17 ++ f3 ++ 0#5 ++ op, 0x0000707F#32, build⟩) :
    decode32 w = .ok (build w) :=
  decode32_of_row (List.mem_of_getElem? hr) w (by rw [and_funct3Mask, hop, hf3])

/-- Every word under SYSTEM is an instruction or unimplemented (40_dispatch.md R126). -/
theorem decode32_system_ne_illegal (hop : opcode w = 0b1110011#7) : decode32 w ≠ .error .illegal := by
  have hcases : ∀ f : BitVec 3, (f = 0b000#3 ∨ f = 0b100#3) ∨ f = 0b001#3 ∨ f = 0b010#3 ∨ f = 0b011#3 ∨ f = 0b101#3 ∨
      f = 0b110#3 ∨ f = 0b111#3 := by decide
  obtain hf3 | hf3 | hf3 | hf3 | hf3 | hf3 | hf3 := hcases (funct3 w)
  · by_cases hecall : w = 0x00000073#32
    · subst hecall; decide
    · by_cases hebreak : w = 0x00100073#32
      · subst hebreak; decide
      · rw [decode32_of_privilegedSpace hop hf3 hecall hebreak]; nofun
  · rw [decode32_of_funct3 hop hf3 (k := 66) rfl]; nofun
  · rw [decode32_of_funct3 hop hf3 (k := 67) rfl]; nofun
  · rw [decode32_of_funct3 hop hf3 (k := 68) rfl]; nofun
  · rw [decode32_of_funct3 hop hf3 (k := 69) rfl]; nofun
  · rw [decode32_of_funct3 hop hf3 (k := 70) rfl]; nofun
  · rw [decode32_of_funct3 hop hf3 (k := 71) rfl]; nofun

end

/-! ## The statements -/

/-- Settles O1, format by format (`decodeInstr_encode_of_standard`). -/
theorem decodeOfEncodeStandard : Obligations.DecodeOfEncodeStandard :=
  fun _ => decodeInstr_encode_of_standard

/-- Settles O8: two different rows are disjoint (`standardRows_pairwise_disjoint`), whichever stands first. -/
theorem oneRowMatches : Obligations.OneRowMatches := by
  refine ⟨rfl, fun w j k hj hk => ?_⟩
  have hdisjoint := List.pairwise_iff_get.mp standardRows_pairwise_disjoint
  have hboth : (standardRows.get j).pattern &&& (standardRows.get k).mask =
      (standardRows.get k).pattern &&& (standardRows.get j).mask := by
    rw [← hj, ← hk, BitVec.and_assoc, BitVec.and_assoc, BitVec.and_comm (standardRows.get j).mask]
  obtain hlt | heq | hgt := lt_trichotomy j k
  · exact absurd hboth (hdisjoint j k hlt)
  · exact heq
  · exact absurd hboth.symm (hdisjoint k j hgt)

/-- Settles O11: a row for each funct3 that has one (`decode32_of_funct3`), and no row for the others. -/
theorem systemAndFenceOutcomes : Obligations.SystemAndFenceOutcomes := by
  refine ⟨fun w hop => ⟨decode32_system_ne_illegal hop, fun hf3 => decode32_of_funct3 hop hf3 (k := 66) rfl,
    fun hf3 => decode32_of_funct3 hop hf3 (k := 67) rfl, fun hf3 => decode32_of_funct3 hop hf3 (k := 68) rfl,
    fun hf3 => decode32_of_funct3 hop hf3 (k := 69) rfl, fun hf3 => decode32_of_funct3 hop hf3 (k := 70) rfl,
    fun hf3 => decode32_of_funct3 hop hf3 (k := 71) rfl⟩, fun w hop => ?_⟩
  split_ifs with h0 h1
  · exact decode32_of_funct3 hop h0 (k := 62) rfl
  · exact decode32_of_funct3 hop h1 (k := 63) rfl
  · exact decode32_of_miscMem hop h0 h1

end Sys2Proof.Machine
end

section
/-! SUPPORT. Statements O2, O3 and O18 to O24: the compressed words. A word of each compressed format is put together from its
fields, and the legality table, read branch by branch, says which form a parcel spells (`Spells`); what a decoder reads, what
the expander writes and what the quadrant decoder places are then one argument each (48_compressed_expander.md;
49_validator.md R351). -/

namespace Sys2Proof.Machine

/-! ## The formats: `encode` of each form is one of these in the low half, by unfolding -/

section
variable (f3 : BitVec 3) (q : BitVec 2)

def halfAddi4spn (n : BitVec 10) (rdp : PopIdx) : Half :=
  f3 ++ n.extractLsb' 4 2 ++ n.extractLsb' 6 4 ++ n.extractLsb' 2 1 ++ n.extractLsb' 3 1 ++ rdp ++ q

/-- C.LW and C.SW. -/
def halfLw (n : BitVec 7) (rs1p rdp : PopIdx) : Half :=
  f3 ++ n.extractLsb' 3 3 ++ rs1p ++ n.extractLsb' 2 1 ++ n.extractLsb' 6 1 ++ rdp ++ q

/-- C.LD and C.SD. -/
def halfLd (n : BitVec 8) (rs1p rdp : PopIdx) : Half :=
  f3 ++ n.extractLsb' 3 3 ++ rs1p ++ n.extractLsb' 6 2 ++ rdp ++ q

/-- The CI forms with an immediate of six bits in order. -/
def halfImm6 (n : BitVec 6) (rd : RegIdx) : Half :=
  f3 ++ n.extractLsb' 5 1 ++ rd ++ n.extractLsb' 0 5 ++ q

def halfAddi16sp (n : BitVec 10) (rd : RegIdx) : Half :=
  f3 ++ n.extractLsb' 9 1 ++ rd ++ n.extractLsb' 4 1 ++ n.extractLsb' 6 1 ++ n.extractLsb' 7 2 ++ n.extractLsb' 5 1 ++ q

/-- C.SRLI, C.SRAI and C.ANDI. -/
def halfAluImm (n : BitVec 6) (f2 : BitVec 2) (rdp : PopIdx) : Half :=
  f3 ++ n.extractLsb' 5 1 ++ f2 ++ rdp ++ n.extractLsb' 0 5 ++ q

/-- C.SUB to C.ADDW. -/
def halfAlu (f1 : BitVec 1) (f2 : BitVec 2) (rdp : PopIdx) (g2 : BitVec 2) (rs2p : PopIdx) : Half :=
  f3 ++ f1 ++ f2 ++ rdp ++ g2 ++ rs2p ++ q

def halfJ (n : BitVec 12) : Half :=
  f3 ++ n.extractLsb' 11 1 ++ n.extractLsb' 4 1 ++ n.extractLsb' 8 2 ++ n.extractLsb' 10 1 ++ n.extractLsb' 6 1 ++
    n.extractLsb' 7 1 ++ n.extractLsb' 1 3 ++ n.extractLsb' 5 1 ++ q

/-- C.BEQZ and C.BNEZ. -/
def halfB (n : BitVec 9) (rs1p : PopIdx) : Half :=
  f3 ++ n.extractLsb' 8 1 ++ n.extractLsb' 3 2 ++ rs1p ++ n.extractLsb' 6 2 ++ n.extractLsb' 1 2 ++ n.extractLsb' 5 1 ++ q

def halfLwsp (n : BitVec 8) (rd : RegIdx) : Half :=
  f3 ++ n.extractLsb' 5 1 ++ rd ++ n.extractLsb' 2 3 ++ n.extractLsb' 6 2 ++ q

def halfLdsp (n : BitVec 9) (rd : RegIdx) : Half :=
  f3 ++ n.extractLsb' 5 1 ++ rd ++ n.extractLsb' 3 2 ++ n.extractLsb' 6 3 ++ q

/-- The CR forms. -/
def halfReg (f1 : BitVec 1) (rd rs2 : RegIdx) : Half := f3 ++ f1 ++ rd ++ rs2 ++ q

def halfSwsp (n : BitVec 8) (rs2 : RegIdx) : Half :=
  f3 ++ n.extractLsb' 2 4 ++ n.extractLsb' 6 2 ++ rs2 ++ q

def halfSdsp (n : BitVec 9) (rs2 : RegIdx) : Half :=
  f3 ++ n.extractLsb' 3 3 ++ n.extractLsb' 6 3 ++ rs2 ++ q

/-- C.FLD and C.FSD. -/
def halfFld (hi : BitVec 3) (rs1p : PopIdx) (lo : BitVec 2) (rdp : PopIdx) : Half := f3 ++ hi ++ rs1p ++ lo ++ rdp ++ q

def halfFldsp (hi : BitVec 1) (rd : RegIdx) (lo : BitVec 5) : Half := f3 ++ hi ++ rd ++ lo ++ q

def halfFsdsp (hi : BitVec 6) (rs2 : RegIdx) : Half := f3 ++ hi ++ rs2 ++ q

end

/-! ## A parcel is put together from its fields -/

section
variable {h : Half} {f3 : BitVec 3} {q : BitVec 2} (hf : cfunct3 h = f3) (hq : quadrant h = q)
include hf hq

theorem halfAddi4spn_fields : halfAddi4spn f3 q (cImmAddi4spn h) (cRdp h) = h := by
  subst hf hq
  simp [halfAddi4spn, cfunct3, quadrant, cImmAddi4spn, cRdp]

theorem halfLw_fields : halfLw f3 q (cImmLw h) (cRs1p h) (cRdp h) = h := by
  subst hf hq
  simp [halfLw, cfunct3, quadrant, cImmLw, cRs1p, cRdp]

theorem halfLd_fields : halfLd f3 q (cImmLd h) (cRs1p h) (cRdp h) = h := by
  subst hf hq
  simp [halfLd, cfunct3, quadrant, cImmLd, cRs1p, cRdp]

theorem halfImm6_fields {n : BitVec 6} {rd : RegIdx} (hn : uimm6 h = n) (hd : cRd h = rd) : halfImm6 f3 q n rd = h := by
  subst hf hq hn hd
  simp [halfImm6, cfunct3, quadrant, uimm6, cRd]

theorem halfAddi16sp_fields {rd : RegIdx} (hd : cRd h = rd) : halfAddi16sp f3 q (cImmAddi16sp h) rd = h := by
  subst hf hq hd
  simp [halfAddi16sp, cfunct3, quadrant, cImmAddi16sp, cRd]

theorem halfAluImm_fields {f2 : BitVec 2} (h10 : h.extractLsb' 10 2 = f2) :
    halfAluImm f3 q (uimm6 h) f2 (cRs1p h) = h := by
  subst hf hq h10
  simp [halfAluImm, cfunct3, quadrant, uimm6, cRs1p]

theorem halfAlu_fields {f1 : BitVec 1} {f2 g2 : BitVec 2} (h12 : h.extractLsb' 12 1 = f1) (h10 : h.extractLsb' 10 2 = f2)
    (h5 : h.extractLsb' 5 2 = g2) : halfAlu f3 q f1 f2 (cRs1p h) g2 (cRdp h) = h := by
  subst hf hq h12 h10 h5
  simp [halfAlu, cfunct3, quadrant, cRs1p, cRdp]

theorem halfJ_fields : halfJ f3 q (cImmJ h) = h := by
  subst hf hq
  simp [halfJ, cfunct3, quadrant, cImmJ]

theorem halfB_fields : halfB f3 q (cImmB h) (cRs1p h) = h := by
  subst hf hq
  simp [halfB, cfunct3, quadrant, cImmB, cRs1p]

theorem halfLwsp_fields : halfLwsp f3 q (cImmLwsp h) (cRd h) = h := by
  subst hf hq
  simp [halfLwsp, cfunct3, quadrant, cImmLwsp, cRd]

theorem halfLdsp_fields : halfLdsp f3 q (cImmLdsp h) (cRd h) = h := by
  subst hf hq
  simp [halfLdsp, cfunct3, quadrant, cImmLdsp, cRd]

theorem halfReg_fields {f1 : BitVec 1} {rd rs2 : RegIdx} (h12 : h.extractLsb' 12 1 = f1) (hd : cRd h = rd)
    (hs : cRs2 h = rs2) : halfReg f3 q f1 rd rs2 = h := by
  subst hf hq h12 hd hs
  simp [halfReg, cfunct3, quadrant, cRd, cRs2]

theorem halfSwsp_fields : halfSwsp f3 q (cImmSwsp h) (cRs2 h) = h := by
  subst hf hq
  simp [halfSwsp, cfunct3, quadrant, cImmSwsp, cRs2]

theorem halfSdsp_fields : halfSdsp f3 q (cImmSdsp h) (cRs2 h) = h := by
  subst hf hq
  simp [halfSdsp, cfunct3, quadrant, cImmSdsp, cRs2]

theorem halfFld_fields : halfFld f3 q (h.extractLsb' 10 3) (cRs1p h) (h.extractLsb' 5 2) (cRdp h) = h := by
  subst hf hq
  simp [halfFld, cfunct3, quadrant, cRs1p, cRdp]

theorem halfFldsp_fields : halfFldsp f3 q (h.extractLsb' 12 1) (cRd h) (h.extractLsb' 2 5) = h := by
  subst hf hq
  simp [halfFldsp, cfunct3, quadrant, cRd]

theorem halfFsdsp_fields : halfFsdsp f3 q (h.extractLsb' 7 6) (cRs2 h) = h := by
  subst hf hq
  simp [halfFsdsp, cfunct3, quadrant, cRs2]

end

/-! ## Each field of a word put together by a format is the field that went in -/

theorem eq_of_lowZero {n k : Nat} {v : BitVec n} (h : lowZero k v = true) : v.extractLsb' 0 k = 0#k := beq_iff_eq.mp h

section
variable (f3 : BitVec 3) (q : BitVec 2)

theorem halfAddi4spn_reads {n : BitVec 10} (hn : lowZero 2 n = true) (rdp : PopIdx) :
    let h := halfAddi4spn f3 q n rdp
    cfunct3 h = f3 ∧ quadrant h = q ∧ cImmAddi4spn h = n ∧ cRdp h = rdp := by
  simp [halfAddi4spn, cfunct3, quadrant, cImmAddi4spn, cRdp, ← eq_of_lowZero hn]

theorem halfLw_reads {n : BitVec 7} (hn : lowZero 2 n = true) (rs1p rdp : PopIdx) :
    let h := halfLw f3 q n rs1p rdp
    cfunct3 h = f3 ∧ quadrant h = q ∧ cImmLw h = n ∧ cRs1p h = rs1p ∧ cRdp h = rdp := by
  simp [halfLw, cfunct3, quadrant, cImmLw, cRs1p, cRdp, ← eq_of_lowZero hn]

theorem halfLd_reads {n : BitVec 8} (hn : lowZero 3 n = true) (rs1p rdp : PopIdx) :
    let h := halfLd f3 q n rs1p rdp
    cfunct3 h = f3 ∧ quadrant h = q ∧ cImmLd h = n ∧ cRs1p h = rs1p ∧ cRdp h = rdp := by
  simp [halfLd, cfunct3, quadrant, cImmLd, cRs1p, cRdp, ← eq_of_lowZero hn]

theorem halfImm6_reads (n : BitVec 6) (rd : RegIdx) :
    let h := halfImm6 f3 q n rd
    cfunct3 h = f3 ∧ quadrant h = q ∧ uimm6 h = n ∧ cRd h = rd := by
  simp [halfImm6, cfunct3, quadrant, uimm6, cRd]

theorem halfAddi16sp_reads {n : BitVec 10} (hn : lowZero 4 n = true) (rd : RegIdx) :
    let h := halfAddi16sp f3 q n rd
    cfunct3 h = f3 ∧ quadrant h = q ∧ cImmAddi16sp h = n ∧ cRd h = rd := by
  simp [halfAddi16sp, cfunct3, quadrant, cImmAddi16sp, cRd, ← eq_of_lowZero hn]

theorem halfAluImm_reads (n : BitVec 6) (f2 : BitVec 2) (rdp : PopIdx) :
    let h := halfAluImm f3 q n f2 rdp
    cfunct3 h = f3 ∧ quadrant h = q ∧ uimm6 h = n ∧ h.extractLsb' 10 2 = f2 ∧ cRs1p h = rdp := by
  simp [halfAluImm, cfunct3, quadrant, uimm6, cRs1p]

theorem halfAlu_reads (f1 : BitVec 1) (f2 g2 : BitVec 2) (rdp rs2p : PopIdx) :
    let h := halfAlu f3 q f1 f2 rdp g2 rs2p
    cfunct3 h = f3 ∧ quadrant h = q ∧ h.extractLsb' 12 1 = f1 ∧ h.extractLsb' 10 2 = f2 ∧ h.extractLsb' 5 2 = g2 ∧
      cRs1p h = rdp ∧ cRdp h = rs2p := by
  simp [halfAlu, cfunct3, quadrant, cRs1p, cRdp]

theorem halfJ_reads {n : BitVec 12} (hn : lowZero 1 n = true) :
    let h := halfJ f3 q n
    cfunct3 h = f3 ∧ quadrant h = q ∧ cImmJ h = n := by
  simp [halfJ, cfunct3, quadrant, cImmJ, ← eq_of_lowZero hn]

theorem halfB_reads {n : BitVec 9} (hn : lowZero 1 n = true) (rs1p : PopIdx) :
    let h := halfB f3 q n rs1p
    cfunct3 h = f3 ∧ quadrant h = q ∧ cImmB h = n ∧ cRs1p h = rs1p := by
  simp [halfB, cfunct3, quadrant, cImmB, cRs1p, ← eq_of_lowZero hn]

theorem halfLwsp_reads {n : BitVec 8} (hn : lowZero 2 n = true) (rd : RegIdx) :
    let h := halfLwsp f3 q n rd
    cfunct3 h = f3 ∧ quadrant h = q ∧ cImmLwsp h = n ∧ cRd h = rd := by
  simp [halfLwsp, cfunct3, quadrant, cImmLwsp, cRd, ← eq_of_lowZero hn]

theorem halfLdsp_reads {n : BitVec 9} (hn : lowZero 3 n = true) (rd : RegIdx) :
    let h := halfLdsp f3 q n rd
    cfunct3 h = f3 ∧ quadrant h = q ∧ cImmLdsp h = n ∧ cRd h = rd := by
  simp [halfLdsp, cfunct3, quadrant, cImmLdsp, cRd, ← eq_of_lowZero hn]

theorem halfReg_reads (f1 : BitVec 1) (rd rs2 : RegIdx) :
    let h := halfReg f3 q f1 rd rs2
    cfunct3 h = f3 ∧ quadrant h = q ∧ h.extractLsb' 12 1 = f1 ∧ cRd h = rd ∧ cRs2 h = rs2 := by
  simp [halfReg, cfunct3, quadrant, cRd, cRs2]

theorem halfSwsp_reads {n : BitVec 8} (hn : lowZero 2 n = true) (rs2 : RegIdx) :
    let h := halfSwsp f3 q n rs2
    cfunct3 h = f3 ∧ quadrant h = q ∧ cImmSwsp h = n ∧ cRs2 h = rs2 := by
  simp [halfSwsp, cfunct3, quadrant, cImmSwsp, cRs2, ← eq_of_lowZero hn]

theorem halfSdsp_reads {n : BitVec 9} (hn : lowZero 3 n = true) (rs2 : RegIdx) :
    let h := halfSdsp f3 q n rs2
    cfunct3 h = f3 ∧ quadrant h = q ∧ cImmSdsp h = n ∧ cRs2 h = rs2 := by
  simp [halfSdsp, cfunct3, quadrant, cImmSdsp, cRs2, ← eq_of_lowZero hn]

theorem halfFld_reads (hi : BitVec 3) (rs1p : PopIdx) (lo : BitVec 2) (rdp : PopIdx) :
    let h := halfFld f3 q hi rs1p lo rdp
    cfunct3 h = f3 ∧ quadrant h = q ∧ h.extractLsb' 10 3 = hi ∧ cRs1p h = rs1p ∧ h.extractLsb' 5 2 = lo ∧ cRdp h = rdp := by
  simp [halfFld, cfunct3, quadrant, cRs1p, cRdp]

theorem halfFldsp_reads (hi : BitVec 1) (rd : RegIdx) (lo : BitVec 5) :
    let h := halfFldsp f3 q hi rd lo
    cfunct3 h = f3 ∧ quadrant h = q ∧ h.extractLsb' 12 1 = hi ∧ cRd h = rd ∧ h.extractLsb' 2 5 = lo := by
  simp [halfFldsp, cfunct3, quadrant, cRd]

theorem halfFsdsp_reads (hi : BitVec 6) (rs2 : RegIdx) :
    let h := halfFsdsp f3 q hi rs2
    cfunct3 h = f3 ∧ quadrant h = q ∧ h.extractLsb' 7 6 = hi ∧ cRs2 h = rs2 := by
  simp [halfFsdsp, cfunct3, quadrant, cRs2]

end

/-! ## The immediates that must not be zero (49_validator.md R351) -/

/-- The immediate of C.ADDI4SPN places the eight bits that the legality table tests. -/
theorem cImmAddi4spn_eq_zero_iff {h : Half} : cImmAddi4spn h = 0#10 ↔ h.extractLsb' 5 8 = 0#8 := by
  have hplaced : ∀ b : BitVec 8, b.extractLsb' 2 4 ++ b.extractLsb' 6 2 ++ b.extractLsb' 0 1 ++ b.extractLsb' 1 1 ++ 0#2 =
      0#10 ↔ b = 0#8 := by decide
  rw [← hplaced]
  simp [cImmAddi4spn]

/-- The immediate of C.ADDI16SP places the six bits of `uimm6`. -/
theorem cImmAddi16sp_eq_zero_iff {h : Half} : cImmAddi16sp h = 0#10 ↔ uimm6 h = 0#6 := by
  have hplaced : ∀ u : BitVec 6, u.extractLsb' 5 1 ++ u.extractLsb' 1 2 ++ u.extractLsb' 3 1 ++ u.extractLsb' 0 1 ++
      u.extractLsb' 4 1 ++ 0#4 = 0#10 ↔ u = 0#6 := by decide
  rw [← hplaced]
  simp [cImmAddi16sp, uimm6]

end Sys2Proof.Machine
end

section
/-! SUPPORT. Statements O2 and O3: which form a parcel spells. The legality table, read branch by branch, names the form of a
parcel that is neither reserved nor a HINT, and that form is well-formed and encodes back to the parcel; and the parcel of every
well-formed form of length 2 is in its form's row (49_validator.md R351; 48_compressed_expander.md R310 to R342). -/

namespace Sys2Proof.Machine

/-- The class of the parcel that spells a form of length 2 (49_validator.md R351). -/
def parcelClass : Instr → EncodingClass
  | .illegal => .illegalZero
  | .cFld .. | .cFsd .. | .cFldsp .. | .cFsdsp .. => .unsupported
  | _ => .legal

/-- The parcel `h` spells `i`: it is in the row of a form whose fields give `i`. -/
def Spells (h : Half) (i : Instr) : Prop :=
  ∃ f, classify16 h = (parcelClass i, some f) ∧ compressedForm f h = some i

/-! ## A row of a quadrant's table is a row of the table -/

/-- The value of a field that is none of the values the table names before it. -/
theorem eq_seven : ∀ f : BitVec 3, f ≠ 0b000#3 → f ≠ 0b001#3 → f ≠ 0b010#3 → f ≠ 0b011#3 → f ≠ 0b100#3 →
    f ≠ 0b101#3 → f ≠ 0b110#3 → f = 0b111#3 := by
  bv_omega

theorem eq_three : ∀ f : BitVec 2, f ≠ 0b00#2 → f ≠ 0b01#2 → f ≠ 0b10#2 → f = 0b11#2 := by decide

theorem eq_one : ∀ f : BitVec 1, f ≠ 0#1 → f = 1#1 := by decide

section
variable {h : Half} {c : EncodingClass} {f : Form}

/-- The all-zero parcel apart, which the table of quadrant 0 has among its reserved ones. -/
theorem classify16_of_q0 (hq : quadrant h = 0b00#2) (hc : classifyQ0 h = (c, f)) (hr : c ≠ .reserved) :
    classify16 h = (c, some f) := by
  have hzero : h ≠ 0#16 := by
    rintro rfl
    exact hr (Prod.mk.inj hc).1.symm
  simp [classify16, hzero, hq, hc]

theorem classify16_of_q1 (hq : quadrant h = 0b01#2) (hc : classifyQ1 h = (c, f)) : classify16 h = (c, some f) := by
  have hzero : h ≠ 0#16 := by rintro rfl; nomatch hq
  simp [classify16, hzero, hq, hc]

theorem classify16_of_q2 (hq : quadrant h = 0b10#2) (hc : classifyQ2 h = (c, f)) : classify16 h = (c, some f) := by
  have hzero : h ≠ 0#16 := by rintro rfl; nomatch hq
  simp [classify16, hzero, hq, hc]

/-- What the table says of a parcel, by its quadrant. -/
theorem classify16_cases {o : Option Form} (hc : classify16 h = (c, o)) :
    (h = 0 ∧ c = .illegalZero ∧ o = some .cIllegal) ∨
      (∃ f, o = some f ∧ ((quadrant h = 0b00#2 ∧ classifyQ0 h = (c, f)) ∨ (quadrant h = 0b01#2 ∧ classifyQ1 h = (c, f)) ∨
        (quadrant h = 0b10#2 ∧ classifyQ2 h = (c, f)))) ∨
      (quadrant h = 0b11#2 ∧ c = .notCompressed ∧ o = none) := by
  unfold classify16 at hc
  split at hc
  next hzero =>
    cases hc
    exact .inl ⟨beq_iff_eq.mp hzero, rfl, rfl⟩
  next =>
    split at hc
    case h_1 hq => cases hc; exact .inr (.inl ⟨_, rfl, .inl ⟨hq, rfl⟩⟩)
    case h_2 hq => cases hc; exact .inr (.inl ⟨_, rfl, .inr (.inl ⟨hq, rfl⟩)⟩)
    case h_3 hq => cases hc; exact .inr (.inl ⟨_, rfl, .inr (.inr ⟨hq, rfl⟩)⟩)
    case h_4 h0 h1 h2 =>
      cases hc
      exact .inr (.inr ⟨eq_three _ h0 h1 h2, rfl, rfl⟩)

end

/-! ## Encoding a well-formed form of length 2, and reading its row -/

theorem parcelClass_ne_reserved (i : Instr) : parcelClass i ≠ .reserved := by
  unfold parcelClass
  split <;> nofun

section
variable {h : Half} {i : Instr} {f : Form}

theorem spells_encode (hc : classify16 h = (parcelClass i, some f)) (hi : compressedForm f h = some i)
    (he : encode i = inLowHalf h) : Spells (lowHalf (encode i)) i := by
  rw [he, inLowHalf, lowHalf_append]
  exact ⟨f, hc, hi⟩

theorem spells_encode_q0 (hq : quadrant h = 0b00#2) (hc : classifyQ0 h = (parcelClass i, f))
    (hi : compressedForm f h = some i) (he : encode i = inLowHalf h) : Spells (lowHalf (encode i)) i :=
  spells_encode (classify16_of_q0 hq hc (parcelClass_ne_reserved i)) hi he

theorem spells_encode_q1 (hq : quadrant h = 0b01#2) (hc : classifyQ1 h = (parcelClass i, f))
    (hi : compressedForm f h = some i) (he : encode i = inLowHalf h) : Spells (lowHalf (encode i)) i :=
  spells_encode (classify16_of_q1 hq hc) hi he

theorem spells_encode_q2 (hq : quadrant h = 0b10#2) (hc : classifyQ2 h = (parcelClass i, f))
    (hi : compressedForm f h = some i) (he : encode i = inLowHalf h) : Spells (lowHalf (encode i)) i :=
  spells_encode (classify16_of_q2 hq hc) hi he

end

/-- The parcel of every well-formed form of length 2 spells it: its fields are the operands (`half…_reads`), and they are in the
row of its form. -/
theorem spells_encode_of_wf {i : Instr} (hwf : i.wf = true) (hlen : i.len = 2) : Spells (lowHalf (encode i)) i := by
  cases i
  case illegal | cNop | cEbreak => exact ⟨_, rfl, rfl⟩
  case cAddi4spn rdp n =>
    obtain ⟨hne, hlow⟩ : n ≠ 0#10 ∧ lowZero 2 n = true := by simpa [Instr.wf] using hwf
    obtain ⟨hf, hq, hn, hd⟩ := halfAddi4spn_reads 0b000#3 0b00#2 hlow rdp
    have hrow := mt cImmAddi4spn_eq_zero_iff.mpr (hn.symm ▸ hne)
    exact spells_encode_q0 (f := .cAddi4spn) hq (by simp [classifyQ0, hf, hrow, parcelClass])
      (by simp [compressedForm, hn, hd]) rfl
  case cLw rdp rs1p n =>
    obtain ⟨hf, hq, hn, hs, hd⟩ := halfLw_reads 0b010#3 0b00#2 hwf rs1p rdp
    exact spells_encode_q0 (f := .cLw) hq (by simp [classifyQ0, hf, parcelClass])
      (by simp [compressedForm, hn, hs, hd]) rfl
  case cLd rdp rs1p n =>
    obtain ⟨hf, hq, hn, hs, hd⟩ := halfLd_reads 0b011#3 0b00#2 hwf rs1p rdp
    exact spells_encode_q0 (f := .cLd) hq (by simp [classifyQ0, hf, parcelClass])
      (by simp [compressedForm, hn, hs, hd]) rfl
  case cSw rs1p rs2p n =>
    obtain ⟨hf, hq, hn, hs, hd⟩ := halfLw_reads 0b110#3 0b00#2 hwf rs1p rs2p
    exact spells_encode_q0 (f := .cSw) hq (by simp [classifyQ0, hf, parcelClass])
      (by simp [compressedForm, hn, hs, hd]) rfl
  case cSd rs1p rs2p n =>
    obtain ⟨hf, hq, hn, hs, hd⟩ := halfLd_reads 0b111#3 0b00#2 hwf rs1p rs2p
    exact spells_encode_q0 (f := .cSd) hq (by simp [classifyQ0, hf, parcelClass])
      (by simp [compressedForm, hn, hs, hd]) rfl
  case cFld rdp rs1p hi lo =>
    obtain ⟨hf, hq, hhi, hs, hlo, hd⟩ := halfFld_reads 0b001#3 0b00#2 hi rs1p lo rdp
    exact spells_encode_q0 (f := .cFld) hq (by simp [classifyQ0, hf, parcelClass])
      (by simp only [compressedForm, hhi, hs, hlo, hd]) rfl
  case cFsd rs1p rs2p hi lo =>
    obtain ⟨hf, hq, hhi, hs, hlo, hd⟩ := halfFld_reads 0b101#3 0b00#2 hi rs1p lo rs2p
    exact spells_encode_q0 (f := .cFsd) hq (by simp [classifyQ0, hf, parcelClass])
      (by simp only [compressedForm, hhi, hs, hlo, hd]) rfl
  case cAddi rd n =>
    obtain ⟨hrd, hne⟩ : rd ≠ 0#5 ∧ n ≠ 0#6 := by simpa [Instr.wf] using hwf
    obtain ⟨hf, hq, hn, hd⟩ := halfImm6_reads 0b000#3 0b01#2 n rd
    exact spells_encode_q1 (f := .cAddi) hq (by simp [classifyQ1, hf, hn, hd, hrd, hne, parcelClass])
      (by simp [compressedForm, hn, hd]) rfl
  case cAddiw rd n =>
    have hrd : rd ≠ 0#5 := by simpa [Instr.wf] using hwf
    obtain ⟨hf, hq, hn, hd⟩ := halfImm6_reads 0b001#3 0b01#2 n rd
    exact spells_encode_q1 (f := .cAddiw) hq (by simp [classifyQ1, hf, hd, hrd, parcelClass])
      (by simp [compressedForm, hn, hd]) rfl
  case cLi rd n =>
    have hrd : rd ≠ 0#5 := by simpa [Instr.wf] using hwf
    obtain ⟨hf, hq, hn, hd⟩ := halfImm6_reads 0b010#3 0b01#2 n rd
    exact spells_encode_q1 (f := .cLi) hq (by simp [classifyQ1, hf, hd, hrd, parcelClass])
      (by simp [compressedForm, hn, hd]) rfl
  case cAddi16sp n =>
    obtain ⟨hne, hlow⟩ : n ≠ 0#10 ∧ lowZero 4 n = true := by simpa [Instr.wf] using hwf
    obtain ⟨hf, hq, hn, hd⟩ := halfAddi16sp_reads 0b011#3 0b01#2 hlow 2#5
    have hrow := mt cImmAddi16sp_eq_zero_iff.mpr (hn.symm ▸ hne)
    exact spells_encode_q1 (f := .cAddi16sp) hq
      (by simp [classifyQ1, classifyQ1Upper, hf, hd, hrow, parcelClass]) (by simp [compressedForm, hn]) rfl
  case cLui rd n =>
    obtain ⟨⟨hrd, hrd2⟩, hne⟩ : (rd ≠ 0#5 ∧ rd ≠ 2#5) ∧ n ≠ 0#6 := by simpa [Instr.wf] using hwf
    obtain ⟨hf, hq, hn, hd⟩ := halfImm6_reads 0b011#3 0b01#2 n rd
    exact spells_encode_q1 (f := .cLui) hq
      (by simp [classifyQ1, classifyQ1Upper, hf, hn, hd, hrd, hrd2, hne, parcelClass])
      (by simp [compressedForm, hn, hd]) rfl
  case cSrli rdp n =>
    have hne : n ≠ 0#6 := by simpa [Instr.wf] using hwf
    obtain ⟨hf, hq, hn, h10, hd⟩ := halfAluImm_reads 0b100#3 0b01#2 n 0b00#2 rdp
    exact spells_encode_q1 (f := .cSrli) hq (by simp [classifyQ1, classifyQ1Alu, hf, h10, hn, hne, parcelClass])
      (by simp [compressedForm, hn, hd]) rfl
  case cSrai rdp n =>
    have hne : n ≠ 0#6 := by simpa [Instr.wf] using hwf
    obtain ⟨hf, hq, hn, h10, hd⟩ := halfAluImm_reads 0b100#3 0b01#2 n 0b01#2 rdp
    exact spells_encode_q1 (f := .cSrai) hq (by simp [classifyQ1, classifyQ1Alu, hf, h10, hn, hne, parcelClass])
      (by simp [compressedForm, hn, hd]) rfl
  case cAndi rdp n =>
    obtain ⟨hf, hq, hn, h10, hd⟩ := halfAluImm_reads 0b100#3 0b01#2 n 0b10#2 rdp
    exact spells_encode_q1 (f := .cAndi) hq (by simp [classifyQ1, classifyQ1Alu, hf, h10, parcelClass])
      (by simp [compressedForm, hn, hd]) rfl
  case cSub rdp rs2p =>
    obtain ⟨hf, hq, h12, h10, h5, hd, hs⟩ := halfAlu_reads 0b100#3 0b01#2 0#1 0b11#2 0#2 rdp rs2p
    exact spells_encode_q1 (f := .cSub) hq (by simp [classifyQ1, classifyQ1Alu, hf, h12, h10, h5, parcelClass])
      (by simp [compressedForm, hd, hs]) rfl
  case cXor rdp rs2p =>
    obtain ⟨hf, hq, h12, h10, h5, hd, hs⟩ := halfAlu_reads 0b100#3 0b01#2 0#1 0b11#2 1#2 rdp rs2p
    exact spells_encode_q1 (f := .cXor) hq (by simp [classifyQ1, classifyQ1Alu, hf, h12, h10, h5, parcelClass])
      (by simp [compressedForm, hd, hs]) rfl
  case cOr rdp rs2p =>
    obtain ⟨hf, hq, h12, h10, h5, hd, hs⟩ := halfAlu_reads 0b100#3 0b01#2 0#1 0b11#2 2#2 rdp rs2p
    exact spells_encode_q1 (f := .cOr) hq (by simp [classifyQ1, classifyQ1Alu, hf, h12, h10, h5, parcelClass])
      (by simp [compressedForm, hd, hs]) rfl
  case cAnd rdp rs2p =>
    obtain ⟨hf, hq, h12, h10, h5, hd, hs⟩ := halfAlu_reads 0b100#3 0b01#2 0#1 0b11#2 3#2 rdp rs2p
    exact spells_encode_q1 (f := .cAnd) hq (by simp [classifyQ1, classifyQ1Alu, hf, h12, h10, h5, parcelClass])
      (by simp [compressedForm, hd, hs]) rfl
  case cSubw rdp rs2p =>
    obtain ⟨hf, hq, h12, h10, h5, hd, hs⟩ := halfAlu_reads 0b100#3 0b01#2 1#1 0b11#2 0#2 rdp rs2p
    exact spells_encode_q1 (f := .cSubw) hq (by simp [classifyQ1, classifyQ1Alu, hf, h12, h10, h5, parcelClass])
      (by simp [compressedForm, hd, hs]) rfl
  case cAddw rdp rs2p =>
    obtain ⟨hf, hq, h12, h10, h5, hd, hs⟩ := halfAlu_reads 0b100#3 0b01#2 1#1 0b11#2 1#2 rdp rs2p
    exact spells_encode_q1 (f := .cAddw) hq (by simp [classifyQ1, classifyQ1Alu, hf, h12, h10, h5, parcelClass])
      (by simp [compressedForm, hd, hs]) rfl
  case cJ n =>
    obtain ⟨hf, hq, hn⟩ := halfJ_reads 0b101#3 0b01#2 hwf
    exact spells_encode_q1 (f := .cJ) hq (by simp [classifyQ1, hf, parcelClass]) (by simp [compressedForm, hn]) rfl
  case cBeqz rs1p n =>
    obtain ⟨hf, hq, hn, hs⟩ := halfB_reads 0b110#3 0b01#2 hwf rs1p
    exact spells_encode_q1 (f := .cBeqz) hq (by simp [classifyQ1, hf, parcelClass]) (by simp [compressedForm, hn, hs]) rfl
  case cBnez rs1p n =>
    obtain ⟨hf, hq, hn, hs⟩ := halfB_reads 0b111#3 0b01#2 hwf rs1p
    exact spells_encode_q1 (f := .cBnez) hq (by simp [classifyQ1, hf, parcelClass]) (by simp [compressedForm, hn, hs]) rfl
  case cSlli rd n =>
    obtain ⟨hrd, hne⟩ : rd ≠ 0#5 ∧ n ≠ 0#6 := by simpa [Instr.wf] using hwf
    obtain ⟨hf, hq, hn, hd⟩ := halfImm6_reads 0b000#3 0b10#2 n rd
    exact spells_encode_q2 (f := .cSlli) hq (by simp [classifyQ2, hf, hn, hd, hrd, hne, parcelClass])
      (by simp [compressedForm, hn, hd]) rfl
  case cLwsp rd n =>
    obtain ⟨hrd, hlow⟩ : rd ≠ 0#5 ∧ lowZero 2 n = true := by simpa [Instr.wf] using hwf
    obtain ⟨hf, hq, hn, hd⟩ := halfLwsp_reads 0b010#3 0b10#2 hlow rd
    exact spells_encode_q2 (f := .cLwsp) hq (by simp [classifyQ2, hf, hd, hrd, parcelClass])
      (by simp [compressedForm, hn, hd]) rfl
  case cLdsp rd n =>
    obtain ⟨hrd, hlow⟩ : rd ≠ 0#5 ∧ lowZero 3 n = true := by simpa [Instr.wf] using hwf
    obtain ⟨hf, hq, hn, hd⟩ := halfLdsp_reads 0b011#3 0b10#2 hlow rd
    exact spells_encode_q2 (f := .cLdsp) hq (by simp [classifyQ2, hf, hd, hrd, parcelClass])
      (by simp [compressedForm, hn, hd]) rfl
  case cJr rs1 =>
    have hrs1 : rs1 ≠ 0#5 := by simpa [Instr.wf] using hwf
    obtain ⟨hf, hq, h12, hd, hs⟩ := halfReg_reads 0b100#3 0b10#2 0#1 rs1 0#5
    exact spells_encode_q2 (f := .cJr) hq (by simp [classifyQ2, classifyQ2Reg, hf, h12, hd, hs, hrs1, parcelClass])
      (by simp [compressedForm, hd]) rfl
  case cMv rd rs2 =>
    obtain ⟨hrd, hrs2⟩ : rd ≠ 0#5 ∧ rs2 ≠ 0#5 := by simpa [Instr.wf] using hwf
    obtain ⟨hf, hq, h12, hd, hs⟩ := halfReg_reads 0b100#3 0b10#2 0#1 rd rs2
    exact spells_encode_q2 (f := .cMv) hq (by simp [classifyQ2, classifyQ2Reg, hf, h12, hd, hs, hrd, hrs2, parcelClass])
      (by simp [compressedForm, hd, hs]) rfl
  case cJalr rs1 =>
    have hrs1 : rs1 ≠ 0#5 := by simpa [Instr.wf] using hwf
    obtain ⟨hf, hq, h12, hd, hs⟩ := halfReg_reads 0b100#3 0b10#2 1#1 rs1 0#5
    exact spells_encode_q2 (f := .cJalr) hq (by simp [classifyQ2, classifyQ2Reg, hf, h12, hd, hs, hrs1, parcelClass])
      (by simp [compressedForm, hd]) rfl
  case cAdd rd rs2 =>
    obtain ⟨hrd, hrs2⟩ : rd ≠ 0#5 ∧ rs2 ≠ 0#5 := by simpa [Instr.wf] using hwf
    obtain ⟨hf, hq, h12, hd, hs⟩ := halfReg_reads 0b100#3 0b10#2 1#1 rd rs2
    exact spells_encode_q2 (f := .cAdd) hq (by simp [classifyQ2, classifyQ2Reg, hf, h12, hd, hs, hrd, hrs2, parcelClass])
      (by simp [compressedForm, hd, hs]) rfl
  case cSwsp rs2 n =>
    obtain ⟨hf, hq, hn, hs⟩ := halfSwsp_reads 0b110#3 0b10#2 hwf rs2
    exact spells_encode_q2 (f := .cSwsp) hq (by simp [classifyQ2, hf, parcelClass]) (by simp [compressedForm, hn, hs]) rfl
  case cSdsp rs2 n =>
    obtain ⟨hf, hq, hn, hs⟩ := halfSdsp_reads 0b111#3 0b10#2 hwf rs2
    exact spells_encode_q2 (f := .cSdsp) hq (by simp [classifyQ2, hf, parcelClass]) (by simp [compressedForm, hn, hs]) rfl
  case cFldsp rd hi lo =>
    obtain ⟨hf, hq, hhi, hd, hlo⟩ := halfFldsp_reads 0b001#3 0b10#2 hi rd lo
    exact spells_encode_q2 (f := .cFldsp) hq (by simp [classifyQ2, hf, parcelClass])
      (by simp only [compressedForm, hhi, hd, hlo]) rfl
  case cFsdsp rs2 hi =>
    obtain ⟨hf, hq, hhi, hs⟩ := halfFsdsp_reads 0b101#3 0b10#2 hi rs2
    exact spells_encode_q2 (f := .cFsdsp) hq (by simp [classifyQ2, hf, parcelClass])
      (by simp only [compressedForm, hhi, hs]) rfl
  all_goals nomatch hlen

/-! ## Reading a row, and encoding the form it spells -/

/-- A parcel of class `c` and form `f` spells a well-formed form of length 2, which is of that class and encodes back to it. -/
def ReadsBack (h : Half) (c : EncodingClass) (f : Form) : Prop :=
  ∃ i : Instr, compressedForm f h = some i ∧ parcelClass i = c ∧ i.wf = true ∧ i.len = 2 ∧ encode i = inLowHalf h

/-- The classes of the parcels that are forms of the opcode table, the floating-point ones among them. -/
def EncodingClass.HasForm (c : EncodingClass) : Prop := c ≠ .reserved ∧ c ≠ .hint ∧ c ≠ .notCompressed

theorem readsBack_of {h h' : Half} {c : EncodingClass} {f : Form} {i : Instr} (hh : h' = h)
    (hi : compressedForm f h = some i) (hwf : i.wf = true) (hc : parcelClass i = c) (hlen : i.len = 2)
    (he : encode i = inLowHalf h') : ReadsBack h c f :=
  ⟨i, hi, hc, hwf, hlen, hh ▸ he⟩

section
variable {h : Half} {c : EncodingClass} {f : Form}

theorem classifyQ0_readsBack (hq : quadrant h = 0b00#2) (hrow : classifyQ0 h = (c, f)) (hc : c.HasForm) :
    ReadsBack h c f := by
  obtain ⟨hreserved, hhint, -⟩ := hc
  unfold classifyQ0 at hrow
  split at hrow
  case h_1 hf =>
    split at hrow <;> cases hrow
    next => exact absurd rfl hreserved
    next hne =>
      have hn : cImmAddi4spn h ≠ 0#10 := mt cImmAddi4spn_eq_zero_iff.mp (mt beq_iff_eq.mpr hne)
      exact readsBack_of (halfAddi4spn_fields hf hq) rfl
        (Bool.and_eq_true_iff.mpr ⟨bne_iff_ne.mpr hn, lowZero_append_zero _⟩) rfl rfl rfl
  case h_2 hf => cases hrow; exact readsBack_of (halfFld_fields hf hq) rfl rfl rfl rfl rfl
  case h_3 hf => cases hrow; exact readsBack_of (halfLw_fields hf hq) rfl (lowZero_append_zero _) rfl rfl rfl
  case h_4 hf => cases hrow; exact readsBack_of (halfLd_fields hf hq) rfl (lowZero_append_zero _) rfl rfl rfl
  case h_5 => cases hrow; exact absurd rfl hreserved
  case h_6 hf => cases hrow; exact readsBack_of (halfFld_fields hf hq) rfl rfl rfl rfl rfl
  case h_7 hf => cases hrow; exact readsBack_of (halfLw_fields hf hq) rfl (lowZero_append_zero _) rfl rfl rfl
  case h_8 h0 h1 h2 h3 h4 h5 h6 =>
    cases hrow
    exact readsBack_of (halfLd_fields (eq_seven _ h0 h1 h2 h3 h4 h5 h6) hq) rfl (lowZero_append_zero _) rfl rfl rfl

/-- Rows 25 to 32 of R351, under funct3 100 of quadrant 1. -/
theorem classifyQ1Alu_readsBack (hf : cfunct3 h = 0b100#3) (hq : quadrant h = 0b01#2) (hrow : classifyQ1Alu h = (c, f))
    (hc : c.HasForm) : ReadsBack h c f := by
  obtain ⟨hreserved, hhint, -⟩ := hc
  unfold classifyQ1Alu at hrow
  split at hrow
  case h_1 h10 =>
    split at hrow <;> cases hrow
    next => exact absurd rfl hhint
    next hne => exact readsBack_of (halfAluImm_fields hf hq h10) rfl (bne_iff_ne.mpr (mt beq_iff_eq.mpr hne)) rfl rfl rfl
  case h_2 h10 =>
    split at hrow <;> cases hrow
    next => exact absurd rfl hhint
    next hne => exact readsBack_of (halfAluImm_fields hf hq h10) rfl (bne_iff_ne.mpr (mt beq_iff_eq.mpr hne)) rfl rfl rfl
  case h_3 h10 => cases hrow; exact readsBack_of (halfAluImm_fields hf hq h10) rfl rfl rfl rfl rfl
  case h_4 h0 h1 h2 =>
    have h10 := eq_three _ h0 h1 h2
    split at hrow
    case h_1 h12 h5 => cases hrow; exact readsBack_of (halfAlu_fields hf hq h12 h10 h5) rfl rfl rfl rfl rfl
    case h_2 h12 h5 => cases hrow; exact readsBack_of (halfAlu_fields hf hq h12 h10 h5) rfl rfl rfl rfl rfl
    case h_3 h12 h5 => cases hrow; exact readsBack_of (halfAlu_fields hf hq h12 h10 h5) rfl rfl rfl rfl rfl
    case h_4 h12 h50 h51 h52 =>
      cases hrow
      exact readsBack_of (halfAlu_fields hf hq h12 h10 (eq_three _ h50 h51 h52)) rfl rfl rfl rfl rfl
    case h_5 h5 h12 =>
      cases hrow
      exact readsBack_of (halfAlu_fields hf hq (eq_one _ h12) h10 h5) rfl rfl rfl rfl rfl
    case h_6 h5 h12 =>
      cases hrow
      exact readsBack_of (halfAlu_fields hf hq (eq_one _ h12) h10 h5) rfl rfl rfl rfl rfl
    case h_7 => cases hrow; exact absurd rfl hreserved

/-- Rows 20 to 24 of R351, under funct3 011 of quadrant 1. -/
theorem classifyQ1Upper_readsBack (hf : cfunct3 h = 0b011#3) (hq : quadrant h = 0b01#2)
    (hrow : classifyQ1Upper h = (c, f)) (hc : c.HasForm) : ReadsBack h c f := by
  obtain ⟨hreserved, hhint, -⟩ := hc
  simp only [classifyQ1Upper, beq_iff_eq] at hrow
  split_ifs at hrow with hsp hzero hzero hrd <;> cases hrow
  · exact absurd rfl hreserved
  · have hn : cImmAddi16sp h ≠ 0#10 := mt cImmAddi16sp_eq_zero_iff.mp hzero
    exact readsBack_of (halfAddi16sp_fields hf hq hsp) rfl
      (Bool.and_eq_true_iff.mpr ⟨bne_iff_ne.mpr hn, lowZero_append_zero _⟩) rfl rfl rfl
  · exact absurd rfl hreserved
  · exact absurd rfl hhint
  · exact readsBack_of (halfImm6_fields hf hq rfl rfl) rfl (by simp [Instr.wf, hsp, hzero, hrd]) rfl rfl rfl

theorem classifyQ1_readsBack (hq : quadrant h = 0b01#2) (hrow : classifyQ1 h = (c, f)) (hc : c.HasForm) :
    ReadsBack h c f := by
  have hrows := hc
  obtain ⟨hreserved, hhint, -⟩ := hc
  simp only [classifyQ1, beq_iff_eq, bne_iff_ne] at hrow
  split at hrow
  case h_1 hf =>
    split_ifs at hrow with hrd hzero hne <;> cases hrow
    · exact readsBack_of (h' := 0x0001#16) (halfImm6_fields hf hq hzero hrd) rfl rfl rfl rfl rfl
    · exact absurd rfl hhint
    · exact readsBack_of (halfImm6_fields hf hq rfl rfl) rfl (by simp [Instr.wf, hrd, hne]) rfl rfl rfl
    · exact absurd rfl hhint
  case h_2 hf =>
    split_ifs at hrow with hrd <;> cases hrow
    · exact absurd rfl hreserved
    · exact readsBack_of (halfImm6_fields hf hq rfl rfl) rfl (bne_iff_ne.mpr hrd) rfl rfl rfl
  case h_3 hf =>
    split_ifs at hrow with hrd <;> cases hrow
    · exact absurd rfl hhint
    · exact readsBack_of (halfImm6_fields hf hq rfl rfl) rfl (bne_iff_ne.mpr hrd) rfl rfl rfl
  case h_4 hf => exact classifyQ1Upper_readsBack hf hq hrow hrows
  case h_5 hf => exact classifyQ1Alu_readsBack hf hq hrow hrows
  case h_6 hf => cases hrow; exact readsBack_of (halfJ_fields hf hq) rfl (lowZero_append_zero _) rfl rfl rfl
  case h_7 hf => cases hrow; exact readsBack_of (halfB_fields hf hq) rfl (lowZero_append_zero _) rfl rfl rfl
  case h_8 h0 h1 h2 h3 h4 h5 h6 =>
    cases hrow
    exact readsBack_of (halfB_fields (eq_seven _ h0 h1 h2 h3 h4 h5 h6) hq) rfl (lowZero_append_zero _) rfl rfl rfl

/-- Rows 43 to 50 of R351, under funct3 100 of quadrant 2. -/
theorem classifyQ2Reg_readsBack (hf : cfunct3 h = 0b100#3) (hq : quadrant h = 0b10#2) (hrow : classifyQ2Reg h = (c, f))
    (hc : c.HasForm) : ReadsBack h c f := by
  obtain ⟨hreserved, hhint, -⟩ := hc
  simp only [classifyQ2Reg, beq_iff_eq] at hrow
  split_ifs at hrow with h12 hrs2 hrd hrd hrs2 hrd hrd <;> cases hrow
  · exact absurd rfl hreserved
  · exact readsBack_of (halfReg_fields hf hq h12 rfl hrs2) rfl (bne_iff_ne.mpr hrd) rfl rfl rfl
  · exact absurd rfl hhint
  · exact readsBack_of (halfReg_fields hf hq h12 rfl rfl) rfl (by simp [Instr.wf, hrs2, hrd]) rfl rfl rfl
  · exact readsBack_of (h' := 0x9002#16) (halfReg_fields hf hq (eq_one _ h12) hrd hrs2) rfl rfl rfl rfl rfl
  · exact readsBack_of (halfReg_fields hf hq (eq_one _ h12) rfl hrs2) rfl (bne_iff_ne.mpr hrd) rfl rfl rfl
  · exact absurd rfl hhint
  · exact readsBack_of (halfReg_fields hf hq (eq_one _ h12) rfl rfl) rfl (by simp [Instr.wf, hrs2, hrd]) rfl rfl rfl

theorem classifyQ2_readsBack (hq : quadrant h = 0b10#2) (hrow : classifyQ2 h = (c, f)) (hc : c.HasForm) :
    ReadsBack h c f := by
  have hrows := hc
  obtain ⟨hreserved, hhint, -⟩ := hc
  simp only [classifyQ2, beq_iff_eq, Bool.or_eq_true] at hrow
  split at hrow
  case h_1 hf =>
    split_ifs at hrow with hzero <;> cases hrow
    · exact absurd rfl hhint
    · exact readsBack_of (halfImm6_fields hf hq rfl rfl) rfl (by simpa [Instr.wf] using hzero) rfl rfl rfl
  case h_2 hf => cases hrow; exact readsBack_of (halfFldsp_fields hf hq) rfl rfl rfl rfl rfl
  case h_3 hf =>
    split_ifs at hrow with hrd <;> cases hrow
    · exact absurd rfl hreserved
    · exact readsBack_of (halfLwsp_fields hf hq) rfl
        (Bool.and_eq_true_iff.mpr ⟨bne_iff_ne.mpr hrd, lowZero_append_zero _⟩) rfl rfl rfl
  case h_4 hf =>
    split_ifs at hrow with hrd <;> cases hrow
    · exact absurd rfl hreserved
    · exact readsBack_of (halfLdsp_fields hf hq) rfl
        (Bool.and_eq_true_iff.mpr ⟨bne_iff_ne.mpr hrd, lowZero_append_zero _⟩) rfl rfl rfl
  case h_5 hf => exact classifyQ2Reg_readsBack hf hq hrow hrows
  case h_6 hf => cases hrow; exact readsBack_of (halfFsdsp_fields hf hq) rfl rfl rfl rfl rfl
  case h_7 hf => cases hrow; exact readsBack_of (halfSwsp_fields hf hq) rfl (lowZero_append_zero _) rfl rfl rfl
  case h_8 h0 h1 h2 h3 h4 h5 h6 =>
    cases hrow
    exact readsBack_of (halfSdsp_fields (eq_seven _ h0 h1 h2 h3 h4 h5 h6) hq) rfl (lowZero_append_zero _) rfl rfl rfl

/-- A parcel of a class that has forms is of some form, and reads back. -/
theorem classify16_readsBack {o : Option Form} (hrow : classify16 h = (c, o)) (hc : c.HasForm) :
    ∃ f, o = some f ∧ ReadsBack h c f := by
  obtain ⟨rfl, rfl, rfl⟩ | ⟨f, rfl, ⟨hq, hrow⟩ | ⟨hq, hrow⟩ | ⟨hq, hrow⟩⟩ | ⟨_, rfl, _⟩ := classify16_cases hrow
  · exact ⟨_, rfl, .illegal, rfl, rfl, rfl, rfl, rfl⟩
  · exact ⟨f, rfl, classifyQ0_readsBack hq hrow hc⟩
  · exact ⟨f, rfl, classifyQ1_readsBack hq hrow hc⟩
  · exact ⟨f, rfl, classifyQ2_readsBack hq hrow hc⟩
  · exact absurd rfl hc.2.2

end

end Sys2Proof.Machine
end

section
/-! SUPPORT. Statements O2 and O3: what the decoder reads from a parcel, from the parcel's two bytes and from a fetch, and what
encoding it gives. -/

namespace Sys2Proof.Machine

/-! ## What the decoder reads from a parcel -/

section
variable {h : Half} {i : Instr}

theorem parcelClass_hasForm (i : Instr) : (parcelClass i).HasForm := by
  unfold parcelClass
  split <;> exact ⟨nofun, nofun, nofun⟩

theorem decodeHalf_of_spells (hs : Spells h i) : decodeHalf h = .ok i := by
  obtain ⟨f, hc, hi⟩ := hs
  have hform := parcelClass_hasForm i
  unfold decodeHalf
  rw [hc]
  split
  case h_1 heq => exact absurd (Prod.mk.inj heq).1 hform.1
  case h_2 heq => exact absurd (Prod.mk.inj heq).1 hform.2.1
  case h_3 heq => exact absurd (Prod.mk.inj heq).1 hform.2.2
  case h_4 heq => nomatch (Prod.mk.inj heq).2
  case h_5 heq =>
    cases heq
    simp only [hi]

/-- A parcel the decoder reads as `i` spells it, and `i` encodes back to it. -/
theorem spells_of_decodeHalf (hok : decodeHalf h = .ok i) :
    Spells h i ∧ i.wf = true ∧ i.len = 2 ∧ encode i = inLowHalf h := by
  unfold decodeHalf at hok
  split at hok
  case h_5 c f hreserved hhint hnot heq =>
    obtain ⟨_, ho, j, hj, rfl, hwf, hlen, he⟩ := classify16_readsBack heq ⟨hreserved, hhint, hnot⟩
    cases ho
    rw [hj] at hok
    cases hok
    exact ⟨⟨f, heq, hj⟩, hwf, hlen, he⟩
  all_goals nomatch hok

/-- A parcel that spells a form is not the low half of a standard word. -/
theorem quadrant_of_spells (hs : Spells h i) : h.extractLsb' 0 2 ≠ 0b11#2 := by
  obtain ⟨f, hc, -⟩ := hs
  intro hq
  obtain ⟨rfl, _⟩ | ⟨_, _, ⟨hq', _⟩ | ⟨hq', _⟩ | ⟨hq', _⟩⟩ | ⟨_, _, ho⟩ := classify16_cases hc
  · nomatch hq
  · nomatch hq'.symm.trans hq
  · nomatch hq'.symm.trans hq
  · nomatch hq'.symm.trans hq
  · nomatch ho

end

/-! ## What the decoder reads from a fetch -/

section
variable {fetch : Word32} {i : Instr}

theorem decodeInstr_of_compressed (hlow : fetch.extractLsb' 0 2 ≠ 0b11#2) :
    decodeInstr fetch = decodeHalf (lowHalf fetch) := if_neg (mt isStandard_iff.mp hlow)

theorem decodeInstr_of_spells (hs : Spells (lowHalf fetch) i) : decodeInstr fetch = .ok i := by
  rw [decodeInstr_of_compressed (lowTwo_lowHalf fetch ▸ quadrant_of_spells hs), decodeHalf_of_spells hs]

/-- A standard word the decoder reads is a variant of `decode32`, other than `Illegal`. -/
theorem decode32_of_decodeInstr (hlow : fetch.extractLsb' 0 2 = 0b11#2) (hok : decodeInstr fetch = .ok i) :
    ∃ v, decode32 fetch = .ok v ∧ v.tag ≠ 0 ∧ i = formOf v := by
  rw [decodeInstr, if_pos (isStandard_iff.mpr hlow)] at hok
  split at hok
  next v hv =>
    refine ⟨v, hv, ?_, (Except.ok.inj hok).symm⟩
    obtain ⟨rfl, _⟩ | ⟨r, hr, _, rfl⟩ := decode32_ok_cases hv
    · nomatch hlow
    · obtain ⟨k, hk, rfl⟩ := List.getElem_of_mem hr
      intro h0
      have htag := tag_build_getElem hk fetch
      rw [h0] at htag
      nomatch htag
  next => nomatch hok

end

/-- The two bytes of a parcel, followed by any others, spell what the parcel spells. -/
theorem decodeBytes_of_spells {w : Word32} {i : Instr} (hs : Spells (lowHalf w) i) (rest : List Byte) :
    decodeBytes (wordByte w 0 :: wordByte w 1 :: rest) = .ok (i, rest) := by
  have hbytes : lowHalf (assemble (wordByte w 0) (wordByte w 1) 0 0) = lowHalf w := by
    rw [lowHalf_assemble]
    simp [wordByte, lowHalf]
  have hlow : (wordByte w 0).extractLsb' 0 2 ≠ 0b11#2 := by
    simpa [wordByte, lowHalf] using quadrant_of_spells hs
  refine (if_neg (mt beq_iff_eq.mp hlow)).trans ?_
  rw [decodeInstr_of_spells (hbytes.symm ▸ hs)]

/-! ## The statements -/

/-- Settles O2: the parcel of a well-formed form of length 2 spells it (`spells_encode_of_wf`), whatever follows it. -/
theorem decodeOfEncodeCompressed : Obligations.DecodeOfEncodeCompressed := by
  intro i hwf hlen
  have hs := spells_encode_of_wf hwf hlen
  exact ⟨fun u => decodeInstr_of_spells ((lowHalf_append u (lowHalf (encode i))).symm ▸ hs), decodeBytes_of_spells hs⟩

/-- Settles O3: a standard word by its row (`encode_formOf`), a compressed one by its row of the legality table
(`spells_of_decodeHalf`). -/
theorem encodeOfDecode : Obligations.EncodeOfDecode := by
  intro w i hok
  by_cases hlow : w.extractLsb' 0 2 = 0b11#2
  · obtain ⟨v, hv, htag, rfl⟩ := decode32_of_decodeInstr hlow hok
    have hlen : (formOf v).len = 4 := by rw [formOf_len, if_neg htag]
    exact ⟨formOf_wf v, iff_of_true hlen hlow, .inl hlen, by rw [if_pos hlow, encode_formOf hv htag]⟩
  · rw [decodeInstr_of_compressed hlow] at hok
    obtain ⟨_, hwf, hlen, he⟩ := spells_of_decodeHalf hok
    exact ⟨hwf, iff_of_false (by rw [hlen]; decide) hlow, .inr hlen, by rw [if_neg hlow, he, inLowHalf]⟩

end Sys2Proof.Machine
end

section
/-! SUPPORT. Statements O28, O30 and O32 to O37: the step. Every form's meaning answers a next state, which is the entry to a trap,
or the state after one write of a register, a CSR or memory, or a FENCE.I, at a pc that is even where the form is well-formed and
its own address is (`exec_answers`). What a step keeps follows from that alone. -/

namespace Sys2Proof.Machine

/-! ## What an answer can be -/

/-- An address an instruction can have: bit 0 is clear (20_memory.md R43). -/
def EvenAddr (a : Word) : Prop := a.extractLsb' 0 1 = 0#1

/-- One write: to a register, to a CSR that is not read-only and then a register, to memory, or the synchronisation of the
fetch. -/
inductive Writes (s : State) : State → Prop where
  | reg (rd : RegIdx) (v : Word) : Writes s (s.setReg rd v)
  | csr (a : CsrIdx) (w : Word) (rd : RegIdx) (v : Word) (ha : csrReadOnly a = false) :
      Writes s ((s.writeCsr a w).setReg rd v)
  | store (a : Word) (n : Nat) (v : BitVec (8 * n)) : Writes s (s.storeBytes a n v)
  | sync : Writes s s.syncFetch

/-- What a meaning answers from `s`: the entry to a trap, or one write and a pc, even if `even` holds and the pc of `s` is. -/
inductive Answers (even : Prop) (s : State) : Result → Prop where
  | trap (code : Nat) (tval : Word) : Answers even s (.next (s.takeTrap false code tval))
  | goes (u : State) (pc : Word) (hu : Writes s u) (hpc : even → EvenAddr s.pc → EvenAddr pc) :
      Answers even s (.next { u with pc := pc })

/-! ## Even addresses -/

theorem EvenAddr.add {a b : Word} (ha : EvenAddr a) (hb : EvenAddr b) : EvenAddr (a + b) := by
  rw [EvenAddr, BitVec.extractLsb'_add (by decide), ha, hb]
  rfl

theorem EvenAddr.and_not_one (a : Word) : EvenAddr (a &&& ~~~1#64) := by
  rw [EvenAddr, BitVec.extractLsb'_and]
  exact BitVec.and_zero

theorem EvenAddr.and_not_three (a : Word) : EvenAddr (a &&& ~~~3#64) := by
  rw [EvenAddr, BitVec.extractLsb'_and]
  exact BitVec.and_zero

/-- A sign-extended offset with its implicit zero bit. -/
theorem EvenAddr.simm {n : Nat} {imm : BitVec (n + 1)} (h : lowZero 1 imm = true) : EvenAddr (simm imm) := by
  have h0 := lowBit_of_lowZero h
  ext i hi
  obtain rfl : i = 0 := by omega
  simp [Machine.simm, BitVec.getElem_signExtend, h0]

theorem EvenAddr.nextPc {s : State} (h : EvenAddr s.pc) {len : Nat} (hlen : len = 2 ∨ len = 4) : EvenAddr (s.nextPc len) := by
  rcases hlen with rfl | rfl
  · exact h.add rfl
  · exact h.add rfl

/-! ## The answers of the shared operations -/

section
variable {even : Prop} {s : State} {len : Nat} (hlen : len = 2 ∨ len = 4)

theorem answers_exception (e : Exc) : Answers even s (s.exception e) := .trap _ _

theorem answers_illegalInstruction (bits : Word32) : Answers even s (s.illegalInstruction bits) := .trap _ _

theorem answers_link {rd : RegIdx} {target : Word} (htarget : even → EvenAddr s.pc → EvenAddr target) :
    Answers even s (s.link len rd target) := .goes _ _ (.reg rd _) htarget

include hlen

/-- One write, and the next instruction. -/
theorem answers_advance {u : State} (hu : Writes s u) (hpc : u.pc = s.pc) : Answers even s (.next (u.advance len)) :=
  .goes u _ hu fun _ hs => EvenAddr.nextPc (hpc.symm ▸ hs) hlen

theorem answers_branch {taken : Bool} {imm : Word} (himm : even → EvenAddr imm) :
    Answers even s (s.branch len taken imm) := by
  refine .goes s _ (s.setReg_zero 0 ▸ .reg 0#5 0) fun heven hpc => ?_
  split
  · exact hpc.add (himm heven)
  · exact hpc.nextPc hlen

theorem answers_regResult (rd : RegIdx) (v : Word) : Answers even s (s.regResult len rd v) :=
  answers_advance hlen (.reg rd v) (s.setReg_pc rd v)

theorem answers_load {n : Nat} {ext : BitVec (8 * n) → Word} {rd rs1 : RegIdx} {imm : Word} :
    Answers even s (s.load len n ext rd rs1 imm) := by
  unfold State.load
  split
  · exact answers_exception _
  · exact answers_regResult hlen rd _

theorem answers_store {n : Nat} {rs1 rs2 : RegIdx} {imm : Word} : Answers even s (s.store len n rs1 rs2 imm) := by
  unfold State.store
  split
  · exact answers_exception _
  · exact answers_advance hlen (.store _ n _) rfl

theorem answers_csrOp {bits : Word32} {rd : RegIdx} {a : CsrIdx} {w : Bool} {f : Word → Word} :
    Answers even s (s.csrOp len bits rd a w f) := by
  unfold State.csrOp
  split
  next hpermitted =>
    cases w
    case false => exact answers_regResult hlen rd _
    case true => exact answers_advance hlen (.csr a _ rd _ (s.csrPermitted_write hpermitted)) (by simp)
  next => exact answers_illegalInstruction bits

end

theorem Answers.onExpandPath {even : Prop} {s : State} {run : Result} (h : Answers even s run) (parcel : Word32) :
    Answers even s (s.onExpandPath parcel run) := by
  unfold State.onExpandPath
  split
  · exact h
  · exact answers_illegalInstruction parcel

/-! ## The answers of a form -/

/-- Every form's meaning is one of the shared operations, a compressed one on the expand path. -/
theorem exec_answers (i : Instr) (s : State) : Answers (i.wf = true) s (exec i s) := by
  have h2 : 2 = 2 ∨ 2 = 4 := .inl rfl
  have h4 : 4 = 2 ∨ 4 = 4 := .inr rfl
  cases i
  case illegal | cFld | cFsd | cFldsp | cFsdsp => exact answers_illegalInstruction _
  case ecall | ebreak => exact answers_exception _
  case cEbreak => exact (answers_exception _).onExpandPath _
  case jal => exact answers_link fun hwf hpc => hpc.add (.simm hwf)
  case jalr => exact answers_link fun _ _ => .and_not_one _
  case beq | bne | blt | bge | bltu | bgeu => exact answers_branch h4 .simm
  case cJ => exact (answers_link fun hwf hpc => hpc.add (.simm hwf)).onExpandPath _
  case cBeqz | cBnez => exact (answers_branch h2 .simm).onExpandPath _
  case cJr | cJalr => exact (answers_link fun _ _ => .and_not_one _).onExpandPath _
  case lb | lh | lw | ld | lbu | lhu | lwu => exact answers_load h4
  case sb | sh | sw | sd => exact answers_store h4
  case cLw | cLd => exact answers_load h2
  case cSw | cSd => exact answers_store h2
  case cLwsp | cLdsp => exact (answers_load h2).onExpandPath _
  case cSwsp | cSdsp => exact (answers_store h2).onExpandPath _
  case fence => exact answers_advance h4 (s.setReg_zero 0 ▸ .reg 0#5 0) rfl
  case fenceI => exact answers_advance h4 .sync rfl
  case csrrw rd rs1 csr => exact exec_csrrw s rd rs1 csr ▸ answers_csrOp h4
  case csrrs rd rs1 csr => exact exec_csrrs s rd rs1 csr ▸ answers_csrOp h4
  case csrrc rd rs1 csr => exact exec_csrrc s rd rs1 csr ▸ answers_csrOp h4
  case csrrwi rd zimm csr => exact exec_csrrwi s rd zimm csr ▸ answers_csrOp h4
  case csrrsi rd zimm csr => exact exec_csrrsi s rd zimm csr ▸ answers_csrOp h4
  case csrrci rd zimm csr => exact exec_csrrci s rd zimm csr ▸ answers_csrOp h4
  case lui | auipc | addi | slti | sltiu | xori | ori | andi | slli | srli | srai | addiw | slliw | srliw | sraiw | add | sub |
      sll | slt | sltu | xor | srl | sra | or | and | mul | mulh | mulhsu | mulhu | div | divu | rem | remu | addw | subw |
      sllw | srlw | sraw | mulw | divw | divuw | remw | remuw => exact answers_regResult h4 _ _
  case cAddi4spn | cNop | cAddi | cAddiw | cLi | cAddi16sp | cLui | cSrli | cSrai | cAndi | cSub | cXor | cOr | cAnd | cSubw |
      cAddw | cSlli | cMv | cAdd => exact (answers_regResult h2 _ _).onExpandPath _

/-- A step is the meaning of a well-formed form, or a trap, either from the state with its counter advanced. -/
theorem step_answers (s : State) : Answers True s.tick (step s) := by
  unfold step
  split
  · exact answers_exception _
  · split
    next i hi =>
      obtain ⟨hwf, _⟩ := encodeOfDecode s.fetchWord i hi
      have := exec_answers i s.tick
      simpa only [hwf] using this
    next e => rw [State.undecodable_eq]; exact answers_illegalInstruction _

/-! ## What one write keeps -/

section
variable {s u : State}

theorem Writes.mode (h : Writes s u) : u.mode = s.mode := by cases h <;> simp

theorem Writes.params (h : Writes s u) : u.params = s.params := by cases h <;> simp

theorem Writes.draws (h : Writes s u) : u.draws = s.draws := by cases h <;> simp

end

/-! ## The invariant -/

/-- The invariant but for the pc: canonical memories, and canonical CSRs none of which is read-only or has a field of its own. -/
def State.Canonical (s : State) : Prop :=
  s.mem.wf = true ∧ (∀ m ∈ s.oldMems, Memory.wf m = true) ∧ Cells.wf 0#64 0xC00 s.csrs = true ∧
    ∀ c ∈ s.csrs, c.1 ∉ ownCsrs

theorem State.inv_iff {s : State} : s.inv = true ↔ EvenAddr s.pc ∧ s.Canonical := by
  simp [State.inv, EvenAddr, State.Canonical, and_assoc]

theorem toNat_lt_of_writable {a : CsrIdx} (h : csrReadOnly a = false) : a.toNat < 0xC00 := by
  have hne : a.extractLsb' 10 2 ≠ 0b11#2 := beq_eq_false_iff_ne.mp h
  have hnat : a.toNat / 1024 % 4 ≠ 3 := by
    simpa [← BitVec.toNat_inj, BitVec.extractLsb'_toNat, Nat.shiftRight_eq_div_pow] using hne
  have := a.isLt
  omega

/-- A CSR write changes the sparse CSRs at an address without a field of its own, or not at all. -/
theorem State.writeCsr_csrs_cases (s : State) (a : CsrIdx) (v : Word) :
    (s.writeCsr a v).csrs = s.csrs ∨
      (a.toNat ∉ ownCsrs ∧ (s.writeCsr a v).csrs = Cells.write 0#64 s.csrs a.toNat v) := by
  unfold State.writeCsr
  split_ifs with h1 h2 h3 h4 h5
  case neg =>
    refine .inr ⟨fun hmem => ?_, rfl⟩
    have hown : ∀ n ∈ ownCsrs, n = csrMstatus.toNat ∨ n = csrMtvec.toNat ∨ n = csrMepc.toNat ∨ n = csrMcause.toNat ∨
        n = csrMtval.toNat := by decide
    simp only [← BitVec.toNat_inj] at h1 h2 h3 h4 h5
    have := hown _ hmem
    tauto
  all_goals exact .inl rfl

section
variable {s u : State}

theorem State.Canonical.writeCsr (h : s.Canonical) {a : CsrIdx} (ha : csrReadOnly a = false) (v : Word) :
    (s.writeCsr a v).Canonical := by
  obtain ⟨hmem, hold, hcsrs, hown⟩ := h
  obtain hsame | ⟨hnotOwn, hwrite⟩ := s.writeCsr_csrs_cases a v
  · exact ⟨by simpa using hmem, by simpa using hold, hsame ▸ hcsrs, hsame ▸ hown⟩
  · refine ⟨by simpa using hmem, by simpa using hold, ?_, fun c hc => ?_⟩
    · rw [hwrite]
      exact Cells.wf_write _ hcsrs (toNat_lt_of_writable ha) v
    · rw [hwrite] at hc
      obtain rfl | hc := Cells.mem_write _ hc
      · exact hnotOwn
      · exact hown c hc

theorem Writes.canonical (h : Writes s u) (hs : s.Canonical) : u.Canonical := by
  cases h with
  | reg rd v => simpa [State.Canonical] using hs
  | csr a w rd v ha => simpa [State.Canonical] using hs.writeCsr ha w
  | store a n v =>
    obtain ⟨hmem, hold, hcsrs⟩ := hs
    exact ⟨Memory.write_wf hmem a n v, List.forall_mem_cons.mpr ⟨hmem, hold⟩, hcsrs⟩
  | sync =>
    obtain ⟨hmem, _, hcsrs⟩ := hs
    exact ⟨hmem, nofun, hcsrs⟩

theorem Answers.inv {t : State} (h : Answers True s (.next t)) (hs : s.inv = true) : t.inv = true := by
  rw [State.inv_iff] at hs ⊢
  obtain ⟨hpc, hcanonical⟩ := hs
  cases h with
  | trap code tval =>
    refine ⟨?_, hcanonical⟩
    rw [State.takeTrap_pc, trapTarget_exception]
    exact .and_not_three _
  | goes u pc hu heven => exact ⟨heven trivial hpc, hu.canonical hcanonical⟩

end

/-! ## A step at an odd pc, and one that decodes nothing -/

/-- The answers of the model are traps or one write: in either case a next state. -/
theorem Answers.exists_next {even : Prop} {s : State} {r : Result} (h : Answers even s r) : ∃ t, r = .next t := by
  cases h <;> exact ⟨_, rfl⟩

theorem step_of_odd {s : State} (hodd : s.pc.extractLsb' 0 1 = 1#1) : step s = s.tick.exception .instrMisaligned :=
  if_pos (beq_iff_eq.mpr hodd)

theorem step_of_undecodable {s : State} {e : DecodingError} (heven : s.pc.extractLsb' 0 1 = 0#1)
    (he : decodeInstr s.fetchWord = .error e) :
    step s = s.tick.illegalInstruction (instructionBits s.fetchWord) := by
  have hpc : s.pcMisaligned = false := by rw [State.pcMisaligned, heven]; rfl
  simp only [step, hpc, he, Bool.false_eq_true, if_false, State.undecodable_eq]

theorem instructionBits_eq (fetch : Word32) :
    instructionBits fetch = if fetch.extractLsb' 0 2 = 0b11#2 then fetch else 0#16 ++ fetch.extractLsb' 0 16 := by
  simp only [instructionBits, isStandard_iff, inLowHalf, lowHalf]

/-! ## The statements -/

/-- Settles O32: every step is a trap or one write from the state with its counter advanced (`step_answers`), and either keeps
the invariant. -/
theorem stepKeepsTheInvariant : Obligations.StepKeepsTheInvariant :=
  fun s _ hinv ht => (ht ▸ step_answers s : Answers True s.tick (.next _)).inv hinv

/-- Settles O35: every answer is a next state, of a form (`exec_answers`) and of a step (`step_answers`). -/
theorem everyAnswerIsANextState : Obligations.EveryAnswerIsANextState :=
  ⟨fun i s => (exec_answers i s).exists_next, fun s => (step_answers s).exists_next⟩

/-- Settles O36: neither a trap nor a write touches the parameters or the counter, which the step advances first. -/
theorem stepKeepsTheParameters : Obligations.StepKeepsTheParameters := by
  intro s t ht
  have h := step_answers s
  rw [ht] at h
  cases h with
  | trap => exact ⟨rfl, rfl⟩
  | goes u pc hu => exact ⟨hu.params, hu.draws⟩

/-- Settles O37: no write touches the mode, and trap entry sets what the statement says. -/
theorem onlyATrapChangesTheMode : Obligations.OnlyATrapChangesTheMode := by
  intro i s t ht
  have h := exec_answers i s
  rw [ht] at h
  cases h with
  | trap code => exact .inr ⟨rfl, rfl, trapTarget_exception s.mtvec code⟩
  | goes u pc hu => exact .inl hu.mode

/-- Settles O30: the two traps of a step (`step_of_undecodable`, `step_of_odd`). -/
theorem stepTrapsWithoutAnInstruction : Obligations.StepTrapsWithoutAnInstruction := by
  refine ⟨fun s e heven he => ?_, fun s hodd => ?_⟩
  · rw [step_of_undecodable heven he, instructionBits_eq]
    exact State.illegalTval_eq s _ ▸ s.tick.illegalInstruction_completes _
  · rw [step_of_odd hodd]
    exact ⟨_, s.tick.exception_completes _⟩

/-- Settles O28: a fetch is one of its candidates (`State.fetchWord_mem`), and memory's where all agree. -/
theorem fetchSeesMemoryOrAnOlderOne : Obligations.FetchSeesMemoryOrAnOlderOne := by
  refine fun s => ⟨?_, fun hsame => if_pos (by simpa using hsame)⟩
  obtain ⟨m, hm, hword⟩ := List.mem_map.mp s.fetchWord_mem
  exact ⟨m, hm, hword.symm⟩

/-- Settles O33: at reset there is nothing to be canonical, and the pc is the vector. -/
theorem resetHasTheInvariant : Obligations.ResetHasTheInvariant :=
  ⟨by decide, fun _ _ heven => State.inv_iff.mpr ⟨heven, rfl, nofun, rfl, nofun⟩⟩

/-- Settles O34: every field of the reset state as it is written down. -/
theorem resetValues : Obligations.ResetValues := by
  refine fun p vector => ⟨rfl, BitVec.extractLsb'_zero, rfl, rfl, fun _ => rfl, fun r => ?_, fun a ha => ?_, rfl⟩
  · simp [State.reg, State.resetAt]
  · simp [State.readCsr, State.resetAt, ha, Cells.read]

end Sys2Proof.Machine
end

section
/-! SUPPORT. Statements O52, O53, O57 and O60: the compressed jumps and branches, the exceptions a form takes by its own meaning,
and the return from a trap (60_exceptions.md R381 to R387). -/

namespace Sys2Proof.Machine

/-! ## Jumps and branches of length 2 (48_compressed_expander.md R308, R330 to R339) -/

section
variable {s : State} {parcel : Word32} (hpath : s.params.compressedPath = .expand)
include hpath

theorem onExpandPath_branches {taken : Bool} {cond : Prop} [Decidable cond] {imm : Word} (hcond : taken = true ↔ cond) :
    Completes (s.onExpandPath parcel (s.branch 2 taken imm))
      (fun t => PcEffect s t (if cond then s.pc + imm else s.pc + 2)) := by
  simp only [← hcond]
  exact (s.branch_completes 2 taken imm).onExpandPath hpath

theorem onExpandPath_links {rd : RegIdx} {target target' : Word} (htarget : target = target') :
    Completes (s.onExpandPath parcel (s.link 2 rd target)) (fun t => RegEffect s t rd (s.pc + 2) target') :=
  htarget ▸ (s.link_completes 2 rd target).onExpandPath hpath

end

/-! ## Exceptions a form takes by its own meaning -/

section
variable {i : Instr} {s : State}

theorem execTrapsSomehow_of_exception {e : Exc} {code : Nat} (hexec : exec i s = s.exception e) (hcode : e.code = code) :
    ExecTrapsSomehow i s code := by
  refine ⟨Config.freeTval s.draws, ?_⟩
  rw [ExecTraps, hexec, ← hcode]
  exact s.exception_completes e

theorem execTraps_of_illegalInstruction {bits : Word32} (hexec : exec i s = s.illegalInstruction bits) :
    ExecTraps i s 2 (tvalOf s bits) := by
  rw [ExecTraps, hexec, ← s.illegalTval_eq]
  exact s.illegalInstruction_completes bits

end

theorem tvalOf_zero (s : State) : tvalOf s 0 = 0 := ite_self 0

theorem ecallOf_code (m : Mode) : (ecallOf m).code = match m with | .user => 8 | .supervisor => 9 | .machine => 11 := by
  cases m <;> rfl

/-! ## Trap return (60_exceptions.md R387) -/

theorem Mode.ofBits_bits (m : Mode) : Mode.ofBits m.bits = some m := by cases m <;> rfl

theorem statusMIE_atReturn (v : Word) : statusMIE (statusAtReturn v) = statusMPIE v := by
  simp [statusMIE, statusAtReturn, statusMPIE]

/-- Trap return keeps every bit of mstatus but MIE. -/
theorem statusAtReturn_other (v : Word) {k : Nat} (h3 : k ≠ 3) : (statusAtReturn v).getLsbD k = v.getLsbD k := by
  simp only [statusAtReturn, statusMPIE, BitVec.getLsbD_append, BitVec.getLsbD_extractLsb']
  by_cases hlow : k < 3
  · simp [hlow]
  · by_cases hk : k < 64
    · simp [hlow, show ¬ k - 3 < 1 by omega, show k - 3 - 1 < 60 by omega, show 4 + (k - 3 - 1) = k by omega]
    · simp [hlow, show ¬ k - 3 < 1 by omega, show ¬ k - 3 - 1 < 60 by omega, BitVec.getLsbD_of_ge v k (by omega)]

section
variable {s : State}

theorem trapReturn_of_mode {m : Mode} (h : statusMPP s.mstatus = m.bits) :
    s.trapReturn = .next { s with pc := s.mepc, mode := m, mstatus := statusAtReturn s.mstatus } := by
  rw [State.trapReturn, h, Mode.ofBits_bits]

theorem trapReturn_of_reserved (h : statusMPP s.mstatus = 0b10#2) : s.trapReturn = .fault .reservedPrivilege := by
  rw [State.trapReturn, h]
  rfl

end

/-! ## Entry for an interrupt (60_exceptions.md R386) -/

theorem trapBase_eq (mtvec : Word) : trapBase mtvec = mtvec &&& ~~~3#64 := trapTarget_exception mtvec 0

theorem trapTarget_interrupt (mtvec : Word) (code : Nat) : trapTarget mtvec true code =
    if mtvec.extractLsb' 0 2 = 1#2 then (mtvec &&& ~~~3#64) + BitVec.ofNat 64 (4 * code) else mtvec &&& ~~~3#64 := by
  simp only [trapTarget, Bool.true_and, beq_iff_eq, trapBase_eq]

theorem causeWord_interrupt {code : Nat} (h : code < 2 ^ 60) : causeWord true code = BitVec.ofNat 64 (2 ^ 63 + code) := by
  apply BitVec.eq_of_toNat_eq
  rw [causeWord, BitVec.toNat_append, ← Nat.shiftLeft_add_eq_or_of_lt (BitVec.isLt _)]
  simp
  omega

/-! ## The statements -/

/-- Settles O57: each form is one branch or one link of length 2; a link to x0 is a jump alone. -/
theorem compressedControl : Obligations.CompressedControl := by
  refine ⟨fun s off hpath => ?cJ, fun s rs1p off hpath => ?cBeqz, fun s rs1p off hpath => ?cBnez, fun s rs1 hpath => ?cJr,
    fun s rs1 hpath => ?cJalr⟩
  case cJ => exact (onExpandPath_links hpath rfl).mono fun _ => RegEffect.pcEffect
  case cBeqz => exact onExpandPath_branches hpath beq_iff_eq
  case cBnez => exact onExpandPath_branches hpath bne_iff_ne
  case cJr => exact (onExpandPath_links hpath (by simp)).mono fun _ => RegEffect.pcEffect
  case cJalr => exact onExpandPath_links hpath (by simp)

/-- Settles O52: each form is one exception, ECALL's named by the mode (`ecallOf_code`). -/
theorem environmentCallAndBreakpoint : Obligations.EnvironmentCallAndBreakpoint :=
  ⟨fun s => execTrapsSomehow_of_exception (exec_ecall s) (ecallOf_code s.mode),
    fun s => execTrapsSomehow_of_exception (exec_ebreak s) rfl,
    fun s hpath => execTrapsSomehow_of_exception ((exec_cEbreak s).trans (s.onExpandPath_expand hpath _ _)) rfl⟩

/-- Settles O53: each form's meaning is the illegal-instruction exception, with its own encoding. -/
theorem undecodedFormsTrap : Obligations.UndecodedFormsTrap :=
  ⟨fun s => tvalOf_zero s ▸ execTraps_of_illegalInstruction (exec_illegal s),
    fun s rdp rs1p hi lo => execTraps_of_illegalInstruction (exec_cFld s rdp rs1p hi lo),
    fun s rs1p rs2p hi lo => execTraps_of_illegalInstruction (exec_cFsd s rs1p rs2p hi lo),
    fun s rd hi lo => execTraps_of_illegalInstruction (exec_cFldsp s rd hi lo),
    fun s rs2 hi => execTraps_of_illegalInstruction (exec_cFsdsp s rs2 hi)⟩

/-- Settles O60: the answers of trap return by MPP (`trapReturn_of_mode`, `trapReturn_of_reserved`); after an exception MPP and
MPIE hold the old mode and MIE (`statusMPP_atTrap`, `statusMPIE_atTrap`); and entry for an interrupt. -/
theorem trapReturnRestores : Obligations.TrapReturnRestores := by
  refine ⟨fun s m hmpp => ?_, fun s => trapReturn_of_reserved, fun s code tval => ?_,
    fun s code tval hcode => ⟨trapTarget_interrupt s.mtvec code, causeWord_interrupt hcode, rfl⟩⟩
  · exact ⟨_, trapReturn_of_mode hmpp, rfl, rfl, statusMIE_atReturn _, fun k => statusAtReturn_other _, rfl, rfl, rfl, rfl,
      rfl, fun _ => rfl, .refl rfl rfl, rfl, rfl⟩
  · have hmpp : statusMPP (s.takeTrap false code tval).mstatus = s.mode.bits := statusMPP_atTrap _ _
    have hmie := (statusMIE_atReturn (s.takeTrap false code tval).mstatus).trans (statusMPIE_atTrap s.mstatus s.mode)
    exact ⟨_, trapReturn_of_mode hmpp, rfl, rfl, hmie, fun _ => rfl, .refl rfl rfl⟩

end Sys2Proof.Machine
end

section
/-! SUPPORT. Statements O18, O19, O20, O23 and O24: the expander. A legal parcel spells a form that abbreviates a standard one; its
expansion is that form's encoding, which the standard decoder reads back (48_compressed_expander.md section 2). -/

namespace Sys2Proof.Machine

/-! ## The standard form a compressed one abbreviates -/

/-- The 32-bit instruction that a form of length 2 abbreviates (48_compressed_expander.md R310 to R342). -/
def abbreviated : Instr → Option Instr
  | .cAddi4spn rdp n => some (.addi (popular rdp) sp (n.zeroExtend 12))
  | .cLw rdp rs1p n => some (.lw (popular rdp) (popular rs1p) (n.zeroExtend 12))
  | .cLd rdp rs1p n => some (.ld (popular rdp) (popular rs1p) (n.zeroExtend 12))
  | .cSw rs1p rs2p n => some (.sw (popular rs1p) (popular rs2p) (n.zeroExtend 12))
  | .cSd rs1p rs2p n => some (.sd (popular rs1p) (popular rs2p) (n.zeroExtend 12))
  | .cNop => some (.addi 0 0 0)
  | .cAddi rd n => some (.addi rd rd (n.signExtend 12))
  | .cAddiw rd n => some (.addiw rd rd (n.signExtend 12))
  | .cLi rd n => some (.addi rd 0 (n.signExtend 12))
  | .cAddi16sp n => some (.addi sp sp (n.signExtend 12))
  | .cLui rd n => some (.lui rd (n.signExtend 20))
  | .cSrli rdp n => some (.srli (popular rdp) (popular rdp) n)
  | .cSrai rdp n => some (.srai (popular rdp) (popular rdp) n)
  | .cAndi rdp n => some (.andi (popular rdp) (popular rdp) (n.signExtend 12))
  | .cSub rdp rs2p => some (.sub (popular rdp) (popular rdp) (popular rs2p))
  | .cXor rdp rs2p => some (.xor (popular rdp) (popular rdp) (popular rs2p))
  | .cOr rdp rs2p => some (.or (popular rdp) (popular rdp) (popular rs2p))
  | .cAnd rdp rs2p => some (.and (popular rdp) (popular rdp) (popular rs2p))
  | .cSubw rdp rs2p => some (.subw (popular rdp) (popular rdp) (popular rs2p))
  | .cAddw rdp rs2p => some (.addw (popular rdp) (popular rdp) (popular rs2p))
  | .cJ n => some (.jal 0 (n.signExtend 21))
  | .cBeqz rs1p n => some (.beq (popular rs1p) 0 (n.signExtend 13))
  | .cBnez rs1p n => some (.bne (popular rs1p) 0 (n.signExtend 13))
  | .cSlli rd n => some (.slli rd rd n)
  | .cLwsp rd n => some (.lw rd sp (n.zeroExtend 12))
  | .cLdsp rd n => some (.ld rd sp (n.zeroExtend 12))
  | .cJr rs1 => some (.jalr 0 rs1 0)
  | .cMv rd rs2 => some (.add rd 0 rs2)
  | .cEbreak => some .ebreak
  | .cJalr rs1 => some (.jalr ra rs1 0)
  | .cAdd rd rs2 => some (.add rd rd rs2)
  | .cSwsp rs2 n => some (.sw sp rs2 (n.zeroExtend 12))
  | .cSdsp rs2 n => some (.sd sp rs2 (n.zeroExtend 12))
  | _ => none

theorem abbreviated_isSome (i : Instr) : (abbreviated i).isSome = (i.len == 2 && parcelClass i == .legal) := by
  cases i <;> rfl

/-- The variant of a standard form, over its encoding: the table's rows stand in the order of the forms. -/
def variantOf (j : Instr) : Instruction := variantBuilders[j.ctorIdx]?.getD (.illegal ⟨·⟩) (encode j)

/-- The standard decoder reads a well-formed standard form's variant from its encoding. -/
theorem decode32_encode {j : Instr} (hwf : j.wf = true) (hlen : j.len = 4) :
    decode32 (encode j) = .ok (variantOf j) ∧ (variantOf j).tag ≠ 0 := by
  have hok := decodeInstr_encode_of_standard hwf hlen
  have hlow : (encode j).extractLsb' 0 2 = 0b11#2 := by
    obtain ⟨_, hiff, _⟩ := encodeOfDecode _ _ hok
    exact hiff.mp hlen
  obtain ⟨v, hv, hnot, hj⟩ := decode32_of_decodeInstr hlow hok
  have htag : v.tag.toNat = j.ctorIdx := by
    rw [hj]
    cases v <;> rfl
  have hbuild := variantBuilders_getElem?_tag v
  rw [htag, word_of_decode32 hv] at hbuild
  obtain ⟨b, hb, rfl⟩ := Option.map_eq_some_iff.mp hbuild
  rw [hv, variantOf, hb]
  exact ⟨rfl, hnot⟩

/-! ## The expansion of a form is the encoding of what it abbreviates -/

/-- A sign-extended offset keeps its implicit zero bit. -/
theorem lowZero_signExtend {n m : Nat} {v : BitVec (n + 1)} (h : lowZero 1 v = true) :
    lowZero 1 (v.signExtend (m + 1)) = true := by
  have h0 := lowBit_of_lowZero h
  refine beq_iff_eq.mpr ?_
  ext i hi
  obtain rfl : i = 0 := by omega
  simp [BitVec.getElem_signExtend, h0]

theorem abbreviated_wf {i j : Instr} (hwf : i.wf = true) (hj : abbreviated i = some j) : j.wf = true ∧ j.len = 4 := by
  cases i
  case cJ | cBeqz | cBnez => cases hj; exact ⟨lowZero_signExtend hwf, rfl⟩
  all_goals cases hj <;> exact ⟨rfl, rfl⟩

section
variable {h : Half} {f : Form} {i j : Instr}

theorem expansion_eq_encode (hi : compressedForm f h = some i) (hj : abbreviated i = some j) :
    f.expansion h = encode j ∧ f.variantTag = some (variantOf j).tag := by
  cases f <;> cases hi <;> cases hj <;> exact ⟨rfl, rfl⟩

/-- A parcel that spells an abbreviation expands to the encoding of what it abbreviates. -/
theorem expand_of_spells (hs : Spells h i) (hj : abbreviated i = some j) : expand h = encode j := by
  obtain ⟨f, hc, hi⟩ := hs
  have hlegal : parcelClass i = .legal := by
    have hsome := abbreviated_isSome i
    rw [hj] at hsome
    simpa using (Bool.and_eq_true_iff.mp hsome.symm).2
  rw [expand, hc, hlegal]
  exact (expansion_eq_encode hi hj).1

end

/-! ## What the class of a parcel says of its expansion (49_validator.md) -/

section
variable {h : Half}

theorem expand_of_not_legal (hc : (classify16 h).1 ≠ .legal) : expand h = sentinel := by
  unfold expand
  split
  next heq => exact absurd (congrArg Prod.fst heq) hc
  next => rfl

/-- A legal parcel's expansion is the encoding of a standard form, read back as the variant its form names. -/
theorem decode32_expand_of_legal (hc : (classify16 h).1 = .legal) :
    ∃ f v, classify16 h = (.legal, some f) ∧ decode32 (expand h) = .ok v ∧ v.tag ≠ 0 ∧ f.variantTag = some v.tag := by
  obtain ⟨f, hf, i, hi, hclass, hwf, hlen, _⟩ :=
    classify16_readsBack (Prod.ext hc rfl : classify16 h = (.legal, (classify16 h).2)) ⟨nofun, nofun, nofun⟩
  have hrow : classify16 h = (.legal, some f) := Prod.ext hc hf
  obtain ⟨j, hj⟩ : ∃ j, abbreviated i = some j := by
    rw [← Option.isSome_iff_exists, abbreviated_isSome, hlen, hclass]
    rfl
  obtain ⟨hjwf, hjlen⟩ := abbreviated_wf hwf hj
  have hexpand : expand h = encode j := expand_of_spells ⟨f, hclass ▸ hrow, hi⟩ hj
  obtain ⟨hdecode, htag⟩ := decode32_encode hjwf hjlen
  exact ⟨f, variantOf j, hrow, hexpand ▸ hdecode, htag, (expansion_eq_encode hi hj).2⟩

/-- A word that decodes to a variant other than `Illegal` is a standard word, and not the sentinel. -/
theorem lowBits_of_decode32 {w : Word32} {v : Instruction} (hv : decode32 w = .ok v) (htag : v.tag ≠ 0) :
    w.extractLsb' 0 2 = 0b11#2 ∧ w ≠ sentinel := by
  refine ⟨?_, ?_⟩
  · obtain ⟨rfl, rfl⟩ | ⟨r, hr, hw, rfl⟩ := decode32_ok_cases hv
    · exact absurd rfl htag
    · exact (lowBits_of_row hr hw).1
  · rintro rfl
    nomatch hv

theorem expand_ne_sentinel_iff : expand h ≠ sentinel ↔ (classify16 h).1 = .legal := by
  refine ⟨fun hne => by_contra fun hc => hne (expand_of_not_legal hc), fun hc => ?_⟩
  obtain ⟨_, v, _, hv, htag, _⟩ := decode32_expand_of_legal hc
  exact (lowBits_of_decode32 hv htag).2

theorem eq_illegal_of_parcelClass {i : Instr} (hclass : parcelClass i = .illegalZero) : i = .illegal := by
  unfold parcelClass at hclass
  split at hclass
  case h_1 => rfl
  all_goals nomatch hclass

theorem classify16_eq_illegalZero_iff : (classify16 h).1 = .illegalZero ↔ h = 0 := by
  refine ⟨fun hc => ?_, fun h0 => h0 ▸ rfl⟩
  obtain ⟨f, hf, i, hi, hclass, _, hlen, he⟩ :=
    classify16_readsBack (Prod.ext hc rfl : classify16 h = (.illegalZero, (classify16 h).2)) ⟨nofun, nofun, nofun⟩
  obtain rfl := eq_illegal_of_parcelClass hclass
  simpa [encode, inLowHalf, lowHalf] using congrArg lowHalf he.symm

/-- No row of a quadrant's table is of the class of quadrant 3. -/
theorem quadrantRows_ne_notCompressed (h : Half) : (classifyQ0 h).1 ≠ .notCompressed ∧ (classifyQ1 h).1 ≠ .notCompressed ∧
    (classifyQ2 h).1 ≠ .notCompressed := by
  refine ⟨?_, ?_, ?_⟩
  · unfold classifyQ0
    repeat' split
    all_goals nofun
  · unfold classifyQ1 classifyQ1Upper classifyQ1Alu
    repeat' split
    all_goals nofun
  · unfold classifyQ2 classifyQ2Reg
    repeat' split
    all_goals nofun

theorem quadrant_of_notCompressed (hc : (classify16 h).1 = .notCompressed) : quadrant h = 0b11#2 := by
  obtain ⟨h0, h1, h2⟩ := quadrantRows_ne_notCompressed h
  obtain ⟨_, hzero, _⟩ | ⟨f, _, ⟨_, hrow⟩ | ⟨_, hrow⟩ | ⟨_, hrow⟩⟩ | ⟨hq, _⟩ :=
    classify16_cases (Prod.ext hc rfl : classify16 h = (.notCompressed, (classify16 h).2))
  · nomatch hzero
  · exact absurd (congrArg Prod.fst hrow) h0
  · exact absurd (congrArg Prod.fst hrow) h1
  · exact absurd (congrArg Prod.fst hrow) h2
  · exact hq

/-- The expand path's outcome for a parcel, by its class. -/
theorem decodeExpand_of_class : decodeExpand h =
    match (classify16 h).1 with
    | .legal => decode32 (expand h)
    | .illegalZero => .ok (.illegal ⟨0⟩)
    | .reserved => .error .illegal
    | .hint => .error .unimplemented
    | .unsupported => .error .unimplemented
    | .notCompressed => .error .illegal := by
  unfold decodeExpand
  split_ifs with hzero hexp
  · rw [beq_iff_eq.mp hzero]
    rfl
  · rw [expand_ne_sentinel_iff.mp (bne_iff_ne.mp hexp)]
  · have hnotLegal : (classify16 h).1 ≠ .legal := fun hc => hexp (bne_iff_ne.mpr (expand_ne_sentinel_iff.mpr hc))
    have hnotZero : (classify16 h).1 ≠ .illegalZero := fun hc =>
      hzero (beq_iff_eq.mpr (classify16_eq_illegalZero_iff.mp hc))
    revert hnotLegal hnotZero
    cases (classify16 h).1 <;> simp

end

/-! ## The two compressed paths (47_compressed_decoder.md) -/

section
variable {h : Half} {v : Instruction}

/-- The row of a parcel the quadrant decoder accepts is that of its variant's form. -/
theorem classify16_of_cdecode (hv : cdecode h = .ok v) (htag : v.tag ≠ 0) :
    ∃ f, f ∈ [Form.cLw, .cLd, .cSw, .cSd] ∧ classify16 h = (.legal, some f) ∧ f.variantTag = some v.tag := by
  obtain ⟨_, rfl⟩ | ⟨hq, ⟨hf, rfl⟩ | ⟨hf, rfl⟩ | ⟨hf, rfl⟩ | ⟨hf, rfl⟩⟩ := cdecode_ok_cases hv
  · exact absurd rfl htag
  · exact ⟨.cLw, by decide, classify16_of_q0 hq (by simp [classifyQ0, hf]) nofun, rfl⟩
  · exact ⟨.cLd, by decide, classify16_of_q0 hq (by simp [classifyQ0, hf]) nofun, rfl⟩
  · exact ⟨.cSw, by decide, classify16_of_q0 hq (by simp [classifyQ0, hf]) nofun, rfl⟩
  · exact ⟨.cSd, by decide, classify16_of_q0 hq (by simp [classifyQ0, hf]) nofun, rfl⟩

/-- What the quadrant decoder accepts is what the standard decoder reads from the expansion: both variants are over that word,
and the form names the tag of both. -/
theorem decode32_expand_of_cdecode (hv : cdecode h = .ok v) (htag : v.tag ≠ 0) : decode32 (expand h) = .ok v := by
  obtain ⟨f, _, hrow, hf⟩ := classify16_of_cdecode hv htag
  obtain ⟨f', v', hrow', hv', _, hf'⟩ := decode32_expand_of_legal (congrArg Prod.fst hrow)
  obtain rfl : f = f' := by simpa [hrow] using hrow'
  have htags : v'.tag = v.tag := Option.some.inj (hf'.symm.trans hf)
  have hwords : v'.word = v.word := (word_of_decode32 hv').trans (word_of_cdecode hv htag).symm
  rw [hv', Instruction.eq_of_tag_eq_of_word_eq htags hwords]

theorem decodeExpand_of_cdecode (hv : cdecode h = .ok v) : decodeExpand h = .ok v := by
  obtain ⟨rfl, rfl⟩ | hdirect := cdecode_ok_cases hv
  · rfl
  · have htag : v.tag ≠ 0 := by
      obtain ⟨_, ⟨_, rfl⟩ | ⟨_, rfl⟩ | ⟨_, rfl⟩ | ⟨_, rfl⟩⟩ := hdirect <;> nofun
    obtain ⟨_, _, hrow, _⟩ := classify16_of_cdecode hv htag
    rw [decodeExpand_of_class, congrArg Prod.fst hrow]
    exact decode32_expand_of_cdecode hv htag

/-- The pairs of quadrant and funct3 that no path maps. -/
theorem not_legal_of_unmapped (hh : (quadrant h = 0b00#2 ∧ cfunct3 h ∈ [0b001#3, 0b100#3, 0b101#3]) ∨
    (quadrant h = 0b10#2 ∧ cfunct3 h ∈ [0b001#3, 0b101#3]) ∨ quadrant h = 0b11#2) : (classify16 h).1 ≠ .legal := by
  have hzero : h ≠ 0#16 := by rintro rfl; revert hh; decide
  simp only [List.mem_cons, List.not_mem_nil, or_false] at hh
  obtain ⟨hq, hf | hf | hf⟩ | ⟨hq, hf | hf⟩ | hq := hh
  · simp [classify16, hzero, hq, classifyQ0, hf]
  · simp [classify16, hzero, hq, classifyQ0, hf]
  · simp [classify16, hzero, hq, classifyQ0, hf]
  · simp [classify16, hzero, hq, classifyQ2, hf]
  · simp [classify16, hzero, hq, classifyQ2, hf]
  · simp [classify16, hzero, hq]

theorem cdecode_of_unmapped (hh : (quadrant h = 0b00#2 ∧ cfunct3 h ∈ [0b001#3, 0b100#3, 0b101#3]) ∨
    (quadrant h = 0b10#2 ∧ cfunct3 h ∈ [0b001#3, 0b101#3]) ∨ quadrant h = 0b11#2) :
    cdecode h = .error .unimplemented := by
  have hzero : h ≠ 0#16 := by rintro rfl; revert hh; decide
  refine cdecode_unimplemented_iff.mpr ⟨hzero, ?_⟩
  obtain ⟨hq, hf⟩ | ⟨hq, _⟩ | hq := hh
  · exact .inr (List.mem_cons_of_mem _ hf)
  · exact .inl (hq ▸ by decide)
  · exact .inl (hq ▸ by decide)

end

/-- The encoding of a well-formed form that abbreviates another expands to that other's encoding. -/
theorem expand_encode {i j : Instr} (hwf : i.wf = true) (hj : abbreviated i = some j) :
    expand (lowHalf (encode i)) = encode j := by
  have hlen : i.len = 2 := by
    have hsome := abbreviated_isSome i
    rw [hj] at hsome
    exact beq_iff_eq.mp (Bool.and_eq_true_iff.mp hsome.symm).1
  exact expand_of_spells (spells_encode_of_wf hwf hlen) hj

/-! ## The statements -/

/-- Settles O18: `expand` asks the class first; the two examples are runs of it. -/
theorem reservedAndHintGiveTheSentinel : Obligations.ReservedAndHintGiveTheSentinel :=
  ⟨fun _ => expand_of_not_legal, ⟨by decide, by decide⟩, by decide⟩

/-- Settles O19: a legal parcel's expansion decodes to its form's variant (`decode32_expand_of_legal`), so it is not the
sentinel. -/
theorem legalFormsExpandAndDecode : Obligations.LegalFormsExpandAndDecode := by
  refine fun h => ⟨expand_ne_sentinel_iff, fun hne => ?_⟩
  obtain ⟨f, v, hrow, hv, htag, hf⟩ := decode32_expand_of_legal (expand_ne_sentinel_iff.mp hne)
  exact ⟨(lowBits_of_decode32 hv htag).1, f, v, congrArg Prod.snd hrow, hv, htag, hf, word_of_decode32 hv⟩

/-- Settles O20: the outcome by class (`decodeExpand_of_class`); quadrant 3 is no compressed fetch. -/
theorem classDecidesTheOutcome : Obligations.ClassDecidesTheOutcome := by
  intro fetch hlow
  have hdecode : decode fetch .expand = (decodeExpand (fetch.extractLsb' 0 16), 2) := decode_of_compressed hlow
  rw [hdecode, decodeExpand_of_class]
  cases hc : (classify16 (fetch.extractLsb' 0 16)).1
  case legal =>
    obtain ⟨_, v, _, hv, htag, _⟩ := decode32_expand_of_legal hc
    exact ⟨rfl, v, hv, htag⟩
  case notCompressed =>
    exact hlow ((lowTwo_lowHalf fetch).symm.trans (quadrant_of_notCompressed hc))
  all_goals rfl

/-- Settles O23: the two decoders agree on what the quadrant decoder accepts (`decode32_expand_of_cdecode`,
`decodeExpand_of_cdecode`), and on the pairs that have no mapping. -/
theorem twoPathsRoundTrip : Obligations.TwoPathsRoundTrip := by
  refine ⟨fun h v hv htag => ?_, fun fetch v n hv => ?_, fun h hh => ?_⟩
  · have hdecode := decode32_expand_of_cdecode hv htag
    exact ⟨(lowBits_of_decode32 hdecode htag).2, hdecode⟩
  · by_cases hlow : fetch.extractLsb' 0 2 = 0b11#2
    · rwa [decode_of_standard hlow] at hv ⊢
    · rw [decode_of_compressed hlow] at hv ⊢
      obtain ⟨hout, rfl⟩ := Prod.mk.inj hv
      exact Prod.ext (decodeExpand_of_cdecode hout) rfl
  · exact ⟨expand_of_not_legal (not_legal_of_unmapped hh), cdecode_of_unmapped hh⟩

/-- Settles O24: each form abbreviates the standard one the statement names (`expand_encode`). -/
theorem compressedFormsAbbreviate : Obligations.CompressedFormsAbbreviate :=
  ⟨fun _ _ h => expand_encode h rfl, fun _ _ _ h => expand_encode h rfl, fun _ _ _ h => expand_encode h rfl,
    fun _ _ _ h => expand_encode h rfl, fun _ _ _ h => expand_encode h rfl, expand_encode rfl rfl,
    fun _ _ h => expand_encode h rfl, fun _ _ h => expand_encode h rfl, fun _ _ h => expand_encode h rfl,
    fun _ h => expand_encode h rfl, fun _ _ h => expand_encode h rfl, fun _ _ h => expand_encode h rfl,
    fun _ _ h => expand_encode h rfl, fun _ _ => expand_encode rfl rfl, fun _ _ => expand_encode rfl rfl,
    fun _ _ => expand_encode rfl rfl, fun _ _ => expand_encode rfl rfl, fun _ _ => expand_encode rfl rfl,
    fun _ _ => expand_encode rfl rfl, fun _ _ => expand_encode rfl rfl, fun _ h => expand_encode h rfl,
    fun _ _ h => expand_encode h rfl, fun _ _ h => expand_encode h rfl, fun _ _ h => expand_encode h rfl,
    fun _ _ h => expand_encode h rfl, fun _ _ h => expand_encode h rfl, fun _ h => expand_encode (bne_iff_ne.mpr h) rfl,
    fun _ _ hd hs => expand_encode (Bool.and_eq_true_iff.mpr ⟨bne_iff_ne.mpr hd, bne_iff_ne.mpr hs⟩) rfl,
    expand_encode rfl rfl, fun _ h => expand_encode (bne_iff_ne.mpr h) rfl,
    fun _ _ hd hs => expand_encode (Bool.and_eq_true_iff.mpr ⟨bne_iff_ne.mpr hd, bne_iff_ne.mpr hs⟩) rfl,
    fun _ _ h => expand_encode h rfl, fun _ _ h => expand_encode h rfl⟩

end Sys2Proof.Machine
end

section
/-! SUPPORT. Statement O31: the step over forms is the step over the block's variants. A standard form runs its variant at length
4; a compressed one runs, at length 2, the variant of what it abbreviates, where the path decodes it, and takes illegal
instruction where it does not (40_dispatch.md sections 1 and 3; 60_exceptions.md R381). -/

namespace Sys2Proof.Machine

/-! ## A standard form -/

/-- A standard form runs its variant at length 4; the CSR forms and the all-zero one record their own encoding. -/
theorem exec_formOf {v : Instruction} (hword : encode (formOf v) = v.word) (s : State) :
    exec (formOf v) s = execute v 4 s := by
  cases v
  case illegal => exact congrArg (runIllegal · s) hword
  case csrrw c => exact congrArg (runCsrrw 4 · c.rd c.rs1 c.csr s) hword
  case csrrs c => exact congrArg (runCsrrs 4 · c.rd c.rs1 c.csr s) hword
  case csrrc c => exact congrArg (runCsrrc 4 · c.rd c.rs1 c.csr s) hword
  case csrrwi c => exact congrArg (runCsrrwi 4 · c.rd c.zimm c.csr s) hword
  case csrrsi c => exact congrArg (runCsrrsi 4 · c.rd c.zimm c.csr s) hword
  case csrrci c => exact congrArg (runCsrrci 4 · c.rd c.zimm c.csr s) hword
  all_goals rfl

/-! ## The immediates of an abbreviation, extended twice -/

section
variable {n m : Nat} (x : BitVec n)

theorem simm_signExtend (hn : n ≤ m := by decide) (hm : m ≤ 64 := by decide) : simm (x.signExtend m) = simm x := by
  apply BitVec.eq_of_toInt_eq
  rw [simm, simm, BitVec.toInt_signExtend_of_le hm, BitVec.toInt_signExtend_of_le hn,
    BitVec.toInt_signExtend_of_le (hn.trans hm)]

theorem simm_zeroExtend (hn : n < m := by decide) (hm : m ≤ 64 := by decide) : simm (x.zeroExtend m) = uimm x := by
  have hmsb : (x.setWidth m).msb = false := by
    rw [BitVec.msb_setWidth, BitVec.getLsbD_of_ge x _ (by omega), Bool.and_false]
  have hx : x.toNat < 2 ^ m := x.isLt.trans_le (Nat.pow_le_pow_right two_pos hn.le)
  apply BitVec.eq_of_toNat_eq
  rw [simm, uimm, BitVec.zeroExtend_eq_setWidth, BitVec.signExtend_eq_setWidth_of_msb_false hmsb, BitVec.toNat_setWidth,
    BitVec.toNat_setWidth, BitVec.toNat_setWidth, Nat.mod_eq_of_lt hx]

end

/-! ## A variant over a word put together by its format runs the operands that went in -/

section
variable {s : State} {len : Nat} {rd rs1 rs2 : RegIdx} {f3 : BitVec 3} {f7 op : BitVec 7}

theorem execute_wordI {build : CarrierI → Instruction} {run : RegIdx → RegIdx → Word → Result} {imm : BitVec 12} {imm' : Word}
    (hrun : ∀ c, execute (build c) len s = run c.rd c.rs1 c.imm) (himm : simm imm = imm') :
    execute (build ⟨wordI imm rs1 f3 rd op⟩) len s = run rd rs1 imm' := by
  rw [hrun, CarrierI.rd, CarrierI.rs1, CarrierI.imm, immI, rdField_wordI, rs1Field_wordI, immI12_wordI, ← himm, simm]

theorem execute_wordS {build : CarrierS → Instruction} {run : RegIdx → RegIdx → Word → Result} {imm : BitVec 12} {imm' : Word}
    (hrun : ∀ c, execute (build c) len s = run c.rs1 c.rs2 c.imm) (himm : simm imm = imm') :
    execute (build ⟨wordS imm rs2 rs1 f3 op⟩) len s = run rs1 rs2 imm' := by
  rw [hrun, CarrierS.rs1, CarrierS.rs2, CarrierS.imm, immS, rs1Field_wordS, rs2Field_wordS, immS12_wordS, ← himm, simm]

theorem execute_wordB {build : CarrierB → Instruction} {run : RegIdx → RegIdx → Word → Result} {imm : BitVec 13} {imm' : Word}
    (hrun : ∀ c, execute (build c) len s = run c.rs1 c.rs2 c.imm) (hlow : lowZero 1 imm = true) (himm : simm imm = imm') :
    execute (build ⟨wordB imm rs2 rs1 f3 op⟩) len s = run rs1 rs2 imm' := by
  rw [hrun, CarrierB.rs1, CarrierB.rs2, CarrierB.imm, immB, rs1Field_wordB, rs2Field_wordB,
    immB13_wordB _ _ _ _ _ (lowBit_of_lowZero hlow), ← himm, simm]

theorem execute_wordR {build : CarrierR → Instruction} {run : RegIdx → RegIdx → RegIdx → Result}
    (hrun : ∀ c, execute (build c) len s = run c.rd c.rs1 c.rs2) :
    execute (build ⟨wordR f7 rs2 rs1 f3 rd op⟩) len s = run rd rs1 rs2 := by
  rw [hrun, CarrierR.rd, CarrierR.rs1, CarrierR.rs2, rdField_wordR, rs1Field_wordR, rs2Field_wordR]

theorem execute_wordShift64 {build : CarrierShift64 → Instruction} {run : RegIdx → RegIdx → BitVec 6 → Result}
    {f6 shamt : BitVec 6} (hrun : ∀ c, execute (build c) len s = run c.rd c.rs1 c.shamt) :
    execute (build ⟨wordShift64 f6 shamt rs1 f3 rd⟩) len s = run rd rs1 shamt := by
  rw [hrun, CarrierShift64.rd, CarrierShift64.rs1, CarrierShift64.shamt, rdField_wordShift64, rs1Field_wordShift64,
    shamt6_wordShift64]

/-! The variants that more than one compressed form runs, and those with an immediate of a format of their own. -/

section
variable {imm : BitVec 12} {imm' : Word} (himm : simm imm = imm')
include himm

theorem execute_addi : execute (.addi ⟨wordI imm rs1 f3 rd op⟩) len s = runAddi len rd rs1 imm' s :=
  execute_wordI (build := .addi) (run := (runAddi len · · · s)) (fun _ => rfl) himm

theorem execute_lw : execute (.lw ⟨wordI imm rs1 f3 rd op⟩) len s = runLw len rd rs1 imm' s :=
  execute_wordI (build := .lw) (run := (runLw len · · · s)) (fun _ => rfl) himm

theorem execute_ld : execute (.ld ⟨wordI imm rs1 f3 rd op⟩) len s = runLd len rd rs1 imm' s :=
  execute_wordI (build := .ld) (run := (runLd len · · · s)) (fun _ => rfl) himm

theorem execute_jalr : execute (.jalr ⟨wordI imm rs1 f3 rd op⟩) len s = runJalr len rd rs1 imm' s :=
  execute_wordI (build := .jalr) (run := (runJalr len · · · s)) (fun _ => rfl) himm

theorem execute_sw : execute (.sw ⟨wordS imm rs2 rs1 f3 op⟩) len s = runSw len rs1 rs2 imm' s :=
  execute_wordS (build := .sw) (run := (runSw len · · · s)) (fun _ => rfl) himm

theorem execute_sd : execute (.sd ⟨wordS imm rs2 rs1 f3 op⟩) len s = runSd len rs1 rs2 imm' s :=
  execute_wordS (build := .sd) (run := (runSd len · · · s)) (fun _ => rfl) himm

end

theorem execute_lui {imm : BitVec 20} : execute (.lui ⟨wordU imm rd op⟩) len s = runLui len rd (immUOf imm) s := by
  rw [execute, CarrierU.rd, CarrierU.imm, immU, rdField_wordU, immU20_wordU, immUOf]

theorem execute_jal {imm : BitVec 21} {imm' : Word} (hlow : lowZero 1 imm = true) (himm : simm imm = imm') :
    execute (.jal ⟨wordJ imm rd op⟩) len s = runJal len rd imm' s := by
  rw [execute, CarrierJ.rd, CarrierJ.imm, immJ, rdField_wordJ, immJ21_wordJ _ _ _ (lowBit_of_lowZero hlow), ← himm, simm]

end

/-! ## A compressed form -/

/-- The forms that both compressed paths decode (47_compressed_decoder.md R290). -/
def isDirect : Instr → Bool
  | .cLw .. | .cLd .. | .cSw .. | .cSd .. => true
  | _ => false

section
variable {i j : Instr} {s : State}

/-- The direct forms run the variant of what they abbreviate on either path. -/
theorem exec_of_direct (hd : isDirect i = true) (hj : abbreviated i = some j) : exec i s = execute (variantOf j) 2 s := by
  cases i
  case cLw => cases hj; exact (execute_lw (simm_zeroExtend _)).symm
  case cLd => cases hj; exact (execute_ld (simm_zeroExtend _)).symm
  case cSw => cases hj; exact (execute_sw (simm_zeroExtend _)).symm
  case cSd => cases hj; exact (execute_sd (simm_zeroExtend _)).symm
  all_goals nomatch hd

/-- On the expand path a compressed form runs the variant of what it abbreviates, at length 2. -/
theorem exec_of_abbreviated (hpath : s.params.compressedPath = .expand) (hwf : i.wf = true) (hj : abbreviated i = some j) :
    exec i s = execute (variantOf j) 2 s := by
  have runs {parcel : Word32} {run run' : Result} (hrun : run' = run) : s.onExpandPath parcel run = run' := by
    rw [s.onExpandPath_expand hpath, hrun]
  cases i
  case cLw | cLd | cSw | cSd => exact exec_of_direct rfl hj
  case cAddi4spn => cases hj; exact runs (execute_addi (simm_zeroExtend _))
  case cNop => cases hj; exact runs (execute_addi rfl)
  case cAddi | cLi | cAddi16sp => cases hj; exact runs (execute_addi (simm_signExtend _))
  case cAddiw =>
    cases hj
    exact runs (execute_wordI (build := .addiw) (run := (runAddiw 2 · · · s)) (fun _ => rfl) (simm_signExtend _))
  case cAndi =>
    cases hj
    exact runs (execute_wordI (build := .andi) (run := (runAndi 2 · · · s)) (fun _ => rfl) (simm_signExtend _))
  case cLui => cases hj; exact runs execute_lui
  case cSlli => cases hj; exact runs (execute_wordShift64 (build := .slli) (run := (runSlli 2 · · · s)) fun _ => rfl)
  case cSrli => cases hj; exact runs (execute_wordShift64 (build := .srli) (run := (runSrli 2 · · · s)) fun _ => rfl)
  case cSrai => cases hj; exact runs (execute_wordShift64 (build := .srai) (run := (runSrai 2 · · · s)) fun _ => rfl)
  case cSub => cases hj; exact runs (execute_wordR (build := .sub) (run := (runSub 2 · · · s)) fun _ => rfl)
  case cXor => cases hj; exact runs (execute_wordR (build := .xor) (run := (runXor 2 · · · s)) fun _ => rfl)
  case cOr => cases hj; exact runs (execute_wordR (build := .or) (run := (runOr 2 · · · s)) fun _ => rfl)
  case cAnd => cases hj; exact runs (execute_wordR (build := .and) (run := (runAnd 2 · · · s)) fun _ => rfl)
  case cSubw => cases hj; exact runs (execute_wordR (build := .subw) (run := (runSubw 2 · · · s)) fun _ => rfl)
  case cAddw => cases hj; exact runs (execute_wordR (build := .addw) (run := (runAddw 2 · · · s)) fun _ => rfl)
  case cMv | cAdd => cases hj; exact runs (execute_wordR (build := .add) (run := (runAdd 2 · · · s)) fun _ => rfl)
  case cJ => cases hj; exact runs (execute_jal (lowZero_signExtend hwf) (simm_signExtend _))
  case cBeqz =>
    cases hj
    exact runs (execute_wordB (build := .beq) (run := (runBeq 2 · · · s)) (fun _ => rfl) (lowZero_signExtend hwf)
      (simm_signExtend _))
  case cBnez =>
    cases hj
    exact runs (execute_wordB (build := .bne) (run := (runBne 2 · · · s)) (fun _ => rfl) (lowZero_signExtend hwf)
      (simm_signExtend _))
  case cLwsp => cases hj; exact runs (execute_lw (simm_zeroExtend _))
  case cLdsp => cases hj; exact runs (execute_ld (simm_zeroExtend _))
  case cSwsp => cases hj; exact runs (execute_sw (simm_zeroExtend _))
  case cSdsp => cases hj; exact runs (execute_sd (simm_zeroExtend _))
  case cJr | cJalr => cases hj; exact runs (execute_jalr rfl)
  case cEbreak => cases hj; exact runs rfl
  all_goals nomatch hj

/-- On the quadrant path a form that only the expander decodes takes illegal instruction. -/
theorem exec_of_expanderOnly (hpath : s.params.compressedPath = .quadrant) (hd : isDirect i = false)
    (hj : abbreviated i = some j) : exec i s = s.illegalInstruction (encode i) := by
  cases i
  case cLw | cLd | cSw | cSd => nomatch hd
  case cAddi4spn | cNop | cAddi | cAddiw | cLi | cAddi16sp | cLui | cSrli | cSrai | cAndi | cSub | cXor | cOr | cAnd | cSubw |
      cAddw | cJ | cBeqz | cBnez | cSlli | cLwsp | cLdsp | cJr | cMv | cEbreak | cJalr | cAdd | cSwsp | cSdsp =>
    exact s.onExpandPath_quadrant hpath _ _
  all_goals nomatch hj

/-- The all-zero and the floating-point forms take illegal instruction on either path. -/
theorem exec_of_not_legal (hclass : parcelClass i ≠ .legal) : exec i s = s.illegalInstruction (encode i) := by
  unfold parcelClass at hclass
  split at hclass
  case h_6 => exact absurd rfl hclass
  all_goals rfl

end

/-! ## What a path decodes of a parcel -/

section
variable {h : Half} {i j : Instr} {v : Instruction}

theorem wf_of_spells (hs : Spells h i) : i.wf = true := by
  obtain ⟨_, hwf, _⟩ := spells_of_decodeHalf (decodeHalf_of_spells hs)
  exact hwf

theorem encode_of_spells (hs : Spells h i) : encode i = inLowHalf h := by
  obtain ⟨_, _, _, he⟩ := spells_of_decodeHalf (decodeHalf_of_spells hs)
  exact he

theorem decodeExpand_of_spells (hs : Spells h i) (hj : abbreviated i = some j) : decodeExpand h = .ok (variantOf j) := by
  obtain ⟨hjwf, hjlen⟩ := abbreviated_wf (wf_of_spells hs) hj
  obtain ⟨hv, htag⟩ := decode32_encode hjwf hjlen
  have hexpand := expand_of_spells hs hj
  have hlegal := expand_ne_sentinel_iff.mp (hexpand ▸ (lowBits_of_decode32 hv htag).2)
  rw [decodeExpand_of_class, hlegal, hexpand, hv]

/-- The quadrant decoder accepts the parcel of every direct form. -/
theorem cdecode_encode_of_direct (hwf : i.wf = true) (hd : isDirect i = true) :
    ∃ v, cdecode (lowHalf (encode i)) = .ok v := by
  cases i
  case cLw rdp rs1p n =>
    obtain ⟨hf, hq, _⟩ := halfLw_reads 0b010#3 0b00#2 hwf rs1p rdp
    obtain ⟨hlw, _⟩ := cdecode_direct hq
    exact ⟨_, (congrArg cdecode (lowHalf_append _ _)).trans (hlw hf)⟩
  case cLd rdp rs1p n =>
    obtain ⟨hf, hq, _⟩ := halfLd_reads 0b011#3 0b00#2 hwf rs1p rdp
    obtain ⟨_, hld, _⟩ := cdecode_direct hq
    exact ⟨_, (congrArg cdecode (lowHalf_append _ _)).trans (hld hf)⟩
  case cSw rs1p rs2p n =>
    obtain ⟨hf, hq, _⟩ := halfLw_reads 0b110#3 0b00#2 hwf rs1p rs2p
    obtain ⟨_, _, hsw, _⟩ := cdecode_direct hq
    exact ⟨_, (congrArg cdecode (lowHalf_append _ _)).trans (hsw hf)⟩
  case cSd rs1p rs2p n =>
    obtain ⟨hf, hq, _⟩ := halfLd_reads 0b111#3 0b00#2 hwf rs1p rs2p
    obtain ⟨_, _, _, hsd⟩ := cdecode_direct hq
    exact ⟨_, (congrArg cdecode (lowHalf_append _ _)).trans (hsd hf)⟩
  all_goals nomatch hd

theorem cdecode_of_direct (hs : Spells h i) (hd : isDirect i = true) (hj : abbreviated i = some j) :
    cdecode h = .ok (variantOf j) := by
  obtain ⟨v, hv⟩ := cdecode_encode_of_direct (wf_of_spells hs) hd
  rw [encode_of_spells hs, inLowHalf, lowHalf_append] at hv
  rw [hv, ← decodeExpand_of_cdecode hv, decodeExpand_of_spells hs hj]

/-- What the quadrant decoder accepts is spelled by a direct form. -/
theorem isDirect_of_cdecode (hs : Spells h i) (hlegal : parcelClass i = .legal) (hv : cdecode h = .ok v) :
    isDirect i = true := by
  obtain ⟨f, hc, hi⟩ := hs
  have htag : v.tag ≠ 0 := by
    obtain ⟨rfl, _⟩ | ⟨_, ⟨_, rfl⟩ | ⟨_, rfl⟩ | ⟨_, rfl⟩ | ⟨_, rfl⟩⟩ := cdecode_ok_cases hv
    · nomatch hlegal.symm.trans (congrArg Prod.fst hc).symm
    all_goals nofun
  obtain ⟨f', hmem, hc', _⟩ := classify16_of_cdecode hv htag
  obtain rfl : f' = f := Option.some.inj (Prod.mk.inj (hc'.symm.trans hc)).2
  simp only [List.mem_cons, List.not_mem_nil, or_false] at hmem
  obtain rfl | rfl | rfl | rfl := hmem <;> cases hi <;> rfl

/-- The all-zero parcel, on either path. -/
theorem decodeHalfOn_of_illegal (hs : Spells h .illegal) (path : CompressedPath) :
    decodeHalfOn path h = .ok (.illegal ⟨0⟩) := by
  obtain ⟨f, hc, _⟩ := hs
  obtain rfl := classify16_eq_illegalZero_iff.mp (congrArg Prod.fst hc)
  cases path <;> rfl

/-- A legal parcel's form abbreviates a standard one. -/
theorem exists_abbreviated (hs : Spells h i) (hlegal : parcelClass i = .legal) : ∃ j, abbreviated i = some j := by
  obtain ⟨_, _, hlen, _⟩ := spells_of_decodeHalf (decodeHalf_of_spells hs)
  rw [← Option.isSome_iff_exists, abbreviated_isSome, hlen, hlegal]
  rfl

/-- The floating-point forms, which no path decodes. -/
theorem decodeHalfOn_of_unsupported (hs : Spells h i) (hclass : parcelClass i = .unsupported) (path : CompressedPath) :
    decodeHalfOn path h ≠ .ok v := by
  obtain ⟨f, hc, _⟩ := hs
  have hexpand : decodeExpand h = .error .unimplemented := by rw [decodeExpand_of_class, hc, hclass]
  cases path
  case expand => exact fun hv => nomatch hexpand.symm.trans hv
  case quadrant => exact fun hv => nomatch hexpand.symm.trans (decodeExpand_of_cdecode hv)

/-- What a path decodes spells a form. -/
theorem spells_of_decodeHalfOn {path : CompressedPath} (hv : decodeHalfOn path h = .ok v) : ∃ i, Spells h i := by
  have hexpand : decodeExpand h = .ok v := by
    cases path
    case expand => exact hv
    case quadrant => exact decodeExpand_of_cdecode hv
  have hc : (classify16 h).1.HasForm := by
    refine ⟨fun hc => ?_, fun hc => ?_, fun hc => ?_⟩ <;>
      rw [decodeExpand_of_class, hc] at hexpand <;> nomatch hexpand
  obtain ⟨f, hf, i, hi, hclass, _⟩ := classify16_readsBack rfl hc
  exact ⟨i, f, Prod.ext hclass.symm hf, hi⟩

end

/-! ## What the consumer does with a fetch -/

section
variable {fetch : Word32} {i : Instr} {s : State}

theorem consume_of_not_ok {out : DecodeOutcome × Nat} (hout : ∀ v, out.1 ≠ .ok v) :
    consume fetch out s = s.illegalInstruction (instructionBits fetch) := by
  obtain ⟨_ | v, _⟩ := out
  · exact s.undecodable_eq _ _
  · exact absurd rfl (hout v)

theorem instructionBits_of_compressed (hlow : fetch.extractLsb' 0 2 ≠ 0b11#2) :
    instructionBits fetch = inLowHalf (lowHalf fetch) := if_neg (mt isStandard_iff.mp hlow)

/-- A form that a parcel spells is run as the consumer runs what the instance's path decodes. -/
theorem consume_of_spells (hs : Spells (lowHalf fetch) i) :
    consume fetch (decodeHalfOn s.params.compressedPath (lowHalf fetch), 2) s = exec i s := by
  have htraps (hexec : exec i s = s.illegalInstruction (encode i))
      (hout : ∀ v, decodeHalfOn s.params.compressedPath (lowHalf fetch) ≠ .ok v) :
      consume fetch (decodeHalfOn s.params.compressedPath (lowHalf fetch), 2) s = exec i s := by
    rw [consume_of_not_ok hout, hexec, encode_of_spells hs,
      instructionBits_of_compressed (lowTwo_lowHalf fetch ▸ quadrant_of_spells hs)]
  cases hclass : parcelClass i
  case legal =>
    obtain ⟨j, hj⟩ := exists_abbreviated hs hclass
    cases hpath : s.params.compressedPath
    case expand =>
      rw [decodeHalfOn, decodeExpand_of_spells hs hj, exec_of_abbreviated hpath (wf_of_spells hs) hj, consume]
    case quadrant =>
      cases hd : isDirect i
      case true => rw [decodeHalfOn, cdecode_of_direct hs hd hj, exec_of_direct hd hj, consume]
      case false =>
        rw [← hpath]
        refine htraps (exec_of_expanderOnly hpath hd hj) fun v hv => ?_
        rw [hpath] at hv
        nomatch hd.symm.trans (isDirect_of_cdecode hs hclass hv)
  case illegalZero =>
    obtain rfl := eq_illegal_of_parcelClass hclass
    rw [decodeHalfOn_of_illegal hs]
    rfl
  case unsupported =>
    exact htraps (exec_of_not_legal (hclass ▸ nofun)) fun v => decodeHalfOn_of_unsupported hs hclass _
  case reserved | hint | notCompressed =>
    obtain ⟨hreserved, hhint, hnot⟩ := parcelClass_hasForm i
    contradiction

/-- The consumer runs the form a fetch decodes to, as what the block decodes it to. -/
theorem consume_decode_of_ok (hi : decodeInstr fetch = .ok i) :
    consume fetch (decode fetch s.params.compressedPath) s = exec i s := by
  by_cases hlow : fetch.extractLsb' 0 2 = 0b11#2
  · obtain ⟨v, hv, htag, rfl⟩ := decode32_of_decodeInstr hlow hi
    rw [decode_of_standard hlow, hv]
    exact (exec_formOf ((encode_formOf hv htag).trans (word_of_decode32 hv).symm) s).symm
  · rw [decodeInstr_of_compressed hlow] at hi
    obtain ⟨hs, _⟩ := spells_of_decodeHalf hi
    rw [decode_of_compressed hlow]
    exact consume_of_spells hs

/-- Where a fetch decodes to no form, the block's decode is an error too. -/
theorem decode_ne_ok_of_error {e : DecodingError} {path : CompressedPath} (hi : decodeInstr fetch = .error e)
    (v : Instruction) : (decode fetch path).1 ≠ .ok v := by
  by_cases hlow : fetch.extractLsb' 0 2 = 0b11#2
  · rw [decode_of_standard hlow]
    intro (hv : decode32 fetch = .ok v)
    rw [decodeInstr, if_pos (isStandard_iff.mpr hlow), hv] at hi
    nomatch hi
  · rw [decode_of_compressed hlow]
    intro hv
    obtain ⟨i, hs⟩ := spells_of_decodeHalfOn hv
    nomatch hi.symm.trans (decodeInstr_of_spells hs)

end

/-! ## The statement -/

/-- Settles O31: after the same fetch, the two steps run the same meaning (`consume_decode_of_ok`) or take the same trap. -/
theorem stepIsTheBlockStep : Obligations.StepIsTheBlockStep := by
  intro s
  unfold step blockStep
  split
  next => rfl
  next =>
    split
    next i hi => exact (consume_decode_of_ok (s := s.tick) hi).symm
    next e he => rw [State.undecodable_eq, ← consume_of_not_ok (decode_ne_ok_of_error he)]

end Sys2Proof.Machine
end
